-- ==== Sys2Proof/Word.lean ====
section
/-! DEFINITION. The data word of the machine and its plainest arithmetic (00_scope.md R8, R11, R12). -/

namespace Sys2Proof

/-- A 16-bit data value: registers, data-memory words, ALU operands, AR, DR, OR, IP (R8, `XLEN`).
`BitVec.toInt` is its reading as an `s16` (R11), `BitVec.toNat` is the spec's `u16`. -/
abbrev Word := BitVec 16

/-- The 48-bit instruction word of 30_encoding.md R85. -/
abbrev InstrWord := BitVec 48

/-- The 32-bit micro-word of 41_control_store.md R181. -/
abbrev MicroBits := BitVec 32

/-- `wrap16(n)` of R11: the 16-bit value congruent to `n` modulo 65536. -/
abbrev wrap16 (n : Int) : Word := BitVec.ofInt 16 n

/-- A micro-address: an index of the control store, 0 to 126 (R8, R26, R40). -/
abbrev MicroAddr := Fin 127

end Sys2Proof
end

