-- ==== Sys2Proof/Config.lean ====
section
/-! DEFINITION. The sizes the hardware fixes (00_scope.md R8, R9). The spec draws no value (R7), so no free value stands here. -/

namespace Sys2Proof.Config

/-- `MEM_WORDS`: words of data memory, addresses 0 to 1023 (R8). -/
abbrev memWords : Nat := 1024

/-- `CS_WORDS`: micro-words of the control store, micro-addresses 0 to 126 (R8). -/
abbrev csWords : Nat := 127

/-- The longest program that has an address for every instruction (70_reset_and_hazards.md R302, decision D32). -/
abbrev maxText : Nat := 32768

/-- Lower end of the accepted range of an input code (45_io.md R262). -/
abbrev minInputCode : Int := -128

/-- Upper end of the accepted range of an input code (45_io.md R262). -/
abbrev maxInputCode : Int := 127

/-- Lower end of the range of a number argument and of a data element (30_encoding.md R83, 20_memory.md R68). -/
abbrev minNumber : Int := -32768

/-- Upper end of the range of a number argument and of a data element (30_encoding.md R83, 20_memory.md R68). -/
abbrev maxNumber : Int := 65535

/-- What a data-memory word that nothing has written reads as: "padded with zeros" (R46, 20_memory.md R68). -/
abbrev unlistedWord : Word := 0#16

end Sys2Proof.Config
end

