-- ==== Sys2Proof/Syntax.lean ====
section
/-! DEFINITION. The syntax: instruction records as the spec gives them (30_encoding.md section 1), the 73 instruction
forms that decode (R100), and the launch the host hands over (70_reset_and_hazards.md R302). -/

namespace Sys2Proof

/-- The general registers (10_state.md R21). -/
inductive Reg where
  | r1 | r2 | r3
  deriving DecidableEq, Repr

/-- The 17 opcodes, in the order the source lists them (30_encoding.md R80, R86). -/
inductive Opcode where
  | mov | load | store | add | sub | idiv | div | mul | inc | dec | cmp | jmp | jz | jnz | halt | out | inp
  deriving DecidableEq, Repr

/-- An argument `{kind, value}` of a record (R80 to R83): a register `R<n>`, a number, an indirect register `(R<n>)`.
A register identifier carries any natural number (R82), a number argument any integer (R83). -/
inductive Arg where
  | reg (n : Nat)
  | num (v : Int)
  | ind (n : Nat)
  deriving DecidableEq, Repr

/-- The ordered list of 0 to 2 arguments of a record (R80). -/
inductive Args where
  | none
  | one (a1 : Arg)
  | two (a1 a2 : Arg)
  deriving DecidableEq, Repr

/-- An instruction record `{opcode, args}`, the normative form of an instruction (R80). -/
structure Record where
  opcode : Opcode
  args : Args
  deriving DecidableEq, Repr

/-- What one instruction-memory location holds: a record, or a 48-bit word that corresponds to no record (R88). -/
inductive Item where
  | record (r : Record)
  | malformed (w : InstrWord)
  deriving DecidableEq, Repr

/-- The 73 instruction forms of R100, one constructor for each row of opcode_table.json, in its order.
`n` is the number argument after `wrap16` (R83). `At` marks an indirect-register second argument. -/
inductive Instr where
  /-- `MOV R1,#` (R200) -/
  | movR1 (n : Word)
  /-- `MOV R2,#` (R200) -/
  | movR2 (n : Word)
  /-- `MOV R3,#` (R200) -/
  | movR3 (n : Word)
  /-- `MOV R1,R2` (R201) -/
  | movR1R2
  /-- `MOV R2,R1` (R201) -/
  | movR2R1
  /-- `MOV R2,R3` (R201) -/
  | movR2R3
  /-- `MOV R3,R2` (R201) -/
  | movR3R2
  /-- `MOV R1,R3` (R201) -/
  | movR1R3
  /-- `MOV R3,R1` (R201) -/
  | movR3R1
  /-- `LOAD R1,#` (R203) -/
  | loadR1 (n : Word)
  /-- `LOAD R2,#` (R203) -/
  | loadR2 (n : Word)
  /-- `LOAD R3,#` (R203) -/
  | loadR3 (n : Word)
  /-- `LOAD R1,(R2)` (R204) -/
  | loadR1AtR2
  /-- `LOAD R1,(R3)` (R204) -/
  | loadR1AtR3
  /-- `LOAD R2,(R1)` (R204) -/
  | loadR2AtR1
  /-- `LOAD R2,(R3)` (R204) -/
  | loadR2AtR3
  /-- `LOAD R3,(R1)` (R204) -/
  | loadR3AtR1
  /-- `LOAD R3,(R2)` (R204) -/
  | loadR3AtR2
  /-- `STORE R1,#` (R206) -/
  | storeR1 (n : Word)
  /-- `STORE R2,#` (R206) -/
  | storeR2 (n : Word)
  /-- `STORE R3,#` (R206) -/
  | storeR3 (n : Word)
  /-- `STORE R1,(R2)` (R207) -/
  | storeR1AtR2
  /-- `STORE R1,(R3)` (R207) -/
  | storeR1AtR3
  /-- `STORE R2,(R1)` (R207) -/
  | storeR2AtR1
  /-- `STORE R2,(R3)` (R207) -/
  | storeR2AtR3
  /-- `STORE R3,(R1)` (R207) -/
  | storeR3AtR1
  /-- `STORE R3,(R2)` (R207) -/
  | storeR3AtR2
  /-- `ADD R1` (R222) -/
  | addR1
  /-- `ADD R2` (R222) -/
  | addR2
  /-- `ADD R3` (R222) -/
  | addR3
  /-- `SUB R1,R2` (R223) -/
  | subR1R2
  /-- `SUB R2,R1` (R223) -/
  | subR2R1
  /-- `SUB R3,R1` (R223) -/
  | subR3R1
  /-- `SUB R1,R3` (R223) -/
  | subR1R3
  /-- `SUB R2,R3` (R223) -/
  | subR2R3
  /-- `SUB R3,R2` (R223) -/
  | subR3R2
  /-- `IDIV R1,R2` (R224) -/
  | idivR1R2
  /-- `IDIV R2,R1` (R224) -/
  | idivR2R1
  /-- `IDIV R3,R1` (R224) -/
  | idivR3R1
  /-- `IDIV R1,R3` (R224) -/
  | idivR1R3
  /-- `IDIV R2,R3` (R224) -/
  | idivR2R3
  /-- `IDIV R3,R2` (R224) -/
  | idivR3R2
  /-- `DIV R1,R2` (R225) -/
  | divR1R2
  /-- `DIV R2,R1` (R225) -/
  | divR2R1
  /-- `DIV R3,R1` (R225) -/
  | divR3R1
  /-- `DIV R1,R3` (R225) -/
  | divR1R3
  /-- `DIV R2,R3` (R225) -/
  | divR2R3
  /-- `DIV R3,R2` (R225) -/
  | divR3R2
  /-- `MUL R1,R2` (R226) -/
  | mulR1R2
  /-- `MUL R2,R1` (R226) -/
  | mulR2R1
  /-- `MUL R3,R1` (R226) -/
  | mulR3R1
  /-- `INC R1` (R227) -/
  | incR1
  /-- `INC R2` (R227) -/
  | incR2
  /-- `INC R3` (R227) -/
  | incR3
  /-- `DEC R1` (R228) -/
  | decR1
  /-- `DEC R2` (R228) -/
  | decR2
  /-- `DEC R3` (R228) -/
  | decR3
  /-- `CMP R1,#` (R230) -/
  | cmpR1 (n : Word)
  /-- `CMP R2,#` (R230) -/
  | cmpR2 (n : Word)
  /-- `CMP R3,#` (R230) -/
  | cmpR3 (n : Word)
  /-- `CMP R1,R2` (R229) -/
  | cmpR1R2
  /-- `CMP R2,R3` (R229) -/
  | cmpR2R3
  /-- `CMP R1,R3` (R229) -/
  | cmpR1R3
  /-- `JMP #` (R252) -/
  | jmp (n : Word)
  /-- `JZ #` (R253) -/
  | jz (n : Word)
  /-- `JNZ #` (R254) -/
  | jnz (n : Word)
  /-- `OUT R1` (R265) -/
  | outR1
  /-- `OUT R2` (R265) -/
  | outR2
  /-- `OUT R3` (R265) -/
  | outR3
  /-- `IN R1` (R266) -/
  | inR1
  /-- `IN R2` (R266) -/
  | inR2
  /-- `IN R3` (R266) -/
  | inR3
  /-- `HALT` (R256) -/
  | halt
  deriving DecidableEq, Repr

/-- A launch `(text, data, input)` (R302): the program, the initial memory image, the input tokens (character codes). -/
structure Launch where
  text : List Item
  data : List Int
  input : List Nat
  deriving DecidableEq, Repr

end Sys2Proof
end

