-- ==== Sys2Proof/WellFormed.lean ====
section
/-! DEFINITION. What makes an argument, a record and a data image well formed (30_encoding.md R83, 20_memory.md R68,
70_reset_and_hazards.md R302). The operands of `Instr` are 16-bit words already, so an `Instr` needs no check of its own
beyond that of the record it stands for (`Instr.wellFormed`, in Decode.lean). -/

namespace Sys2Proof

/-- A number argument is an integer from -32768 to 65535 (R83); a register identifier carries any natural number (R82). -/
def Arg.wellFormed : Arg → Bool
  | .reg _ => true
  | .num v => decide (Config.minNumber ≤ v) && decide (v ≤ Config.maxNumber)
  | .ind _ => true

/-- Every argument of the list is well formed. -/
def Args.wellFormed : Args → Bool
  | .none => true
  | .one a => a.wellFormed
  | .two a b => a.wellFormed && b.wellFormed

/-- A record the loader accepts: every number argument is in range (R83, R302). -/
def Record.wellFormed (r : Record) : Bool := r.args.wellFormed

/-- An element of the data image: an integer from -32768 to 65535 (R68). -/
def dataWellFormed (v : Int) : Bool := decide (Config.minNumber ≤ v) && decide (v ≤ Config.maxNumber)

/-- The data image: at most 1024 elements, each in range (R68). -/
def dataImageWellFormed (data : List Int) : Bool :=
  decide (data.length ≤ Config.memWords) && data.all dataWellFormed

end Sys2Proof
end

