-- ==== Sys2Proof/Decode.lean ====
section
/-! DEFINITION. Decoding and encoding: the 48-bit instruction word (30_encoding.md R85 to R88), operand extraction (R89),
the decode table of 73 forms (R100 to R108, opcode_table.json), and the encoder written from the same tables. -/

namespace Sys2Proof

/-! ## Field codes (R86, R87, R82) -/

/-- The opcode number of R86. -/
def Opcode.number : Opcode → Nat
  | .mov => 0
  | .load => 1
  | .store => 2
  | .add => 3
  | .sub => 4
  | .idiv => 5
  | .div => 6
  | .mul => 7
  | .inc => 8
  | .dec => 9
  | .cmp => 10
  | .jmp => 11
  | .jz => 12
  | .jnz => 13
  | .halt => 14
  | .out => 15
  | .inp => 16

/-- The opcode of a number (R86); 17 to 31 are no opcode. -/
def Opcode.ofNumber : Nat → Option Opcode
  | 0 => some .mov
  | 1 => some .load
  | 2 => some .store
  | 3 => some .add
  | 4 => some .sub
  | 5 => some .idiv
  | 6 => some .div
  | 7 => some .mul
  | 8 => some .inc
  | 9 => some .dec
  | 10 => some .cmp
  | 11 => some .jmp
  | 12 => some .jz
  | 13 => some .jnz
  | 14 => some .halt
  | 15 => some .out
  | 16 => some .inp
  | _ => none

/-- The number `n` of register `R<n>` (R82). -/
def Reg.number : Reg → Nat
  | .r1 => 1
  | .r2 => 2
  | .r3 => 3

/-- The register a number names; only 1, 2 and 3 name one (R82, R104). -/
def Reg.ofNumber : Nat → Option Reg
  | 1 => some .r1
  | 2 => some .r2
  | 3 => some .r3
  | _ => none

/-! ## The fields of the 48-bit word (R85) -/

/-- `W[47:43]`. -/
def opcodeField (w : InstrWord) : BitVec 5 := w.extractLsb' 43 5
/-- `W[42:41]`. -/
def kind1Field (w : InstrWord) : BitVec 2 := w.extractLsb' 41 2
/-- `W[40:39]`. -/
def kind2Field (w : InstrWord) : BitVec 2 := w.extractLsb' 39 2
/-- `W[38:32]`. -/
def zeroField (w : InstrWord) : BitVec 7 := w.extractLsb' 32 7
/-- `W[31:16]`. -/
def value1Field (w : InstrWord) : Word := w.extractLsb' 16 16
/-- `W[15:0]`. -/
def value2Field (w : InstrWord) : Word := w.extractLsb' 0 16

/-- The word with these fields and a zero `zero` field (R85). -/
def packWord (op : BitVec 5) (k1 k2 : BitVec 2) (v1 v2 : Word) : InstrWord :=
  op ++ k1 ++ k2 ++ 0#7 ++ v1 ++ v2

/-- A well-formed word (R88): an opcode of R86, `zero = 0`, no second argument without a first, no value without a kind. -/
def wordWellFormed (w : InstrWord) : Bool :=
  decide ((opcodeField w).toNat ≤ 16) && decide (zeroField w = 0#7)
    && (decide (kind1Field w ≠ 0#2) || (decide (kind2Field w = 0#2) && decide (value1Field w = 0#16)))
    && (decide (kind2Field w ≠ 0#2) || decide (value2Field w = 0#16))

/-- The argument of kind code `k` and value field `v` (R85, R87): 0 absent, 1 register, 2 number, 3 indirect register;
a number is the field read as signed. -/
def argOfField (k : BitVec 2) (v : Word) : Option Arg :=
  match k.toNat with
  | 0 => none
  | 1 => some (.reg v.toNat)
  | 2 => some (.num v.toInt)
  | _ => some (.ind v.toNat)

/-- The instruction a 48-bit word holds: the record it is the image of, or a word that corresponds to no record (R88). -/
def Item.ofWord (w : InstrWord) : Item :=
  if wordWellFormed w then
    match Opcode.ofNumber (opcodeField w).toNat, argOfField (kind1Field w) (value1Field w),
        argOfField (kind2Field w) (value2Field w) with
    | some op, none, none => .record ⟨op, .none⟩
    | some op, some a, none => .record ⟨op, .one a⟩
    | some op, some a, some b => .record ⟨op, .two a b⟩
    | some _, none, some _ => .malformed w
    | none, _, _ => .malformed w
  else .malformed w

/-- The kind code of an argument (R87). -/
def Arg.kind : Arg → BitVec 2
  | .reg _ => 1#2
  | .num _ => 2#2
  | .ind _ => 3#2

/-- The value field of an argument (R85): the register number, or `u16` of the number. -/
def Arg.field : Arg → Word
  | .reg n => BitVec.ofNat 16 n
  | .num v => wrap16 v
  | .ind n => BitVec.ofNat 16 n

/-- The 48-bit word of a record (R85); absent arguments have kind 0 and value 0. -/
def Record.word (r : Record) : InstrWord :=
  match r.args with
  | .none => packWord (BitVec.ofNat 5 r.opcode.number) 0#2 0#2 0#16 0#16
  | .one a => packWord (BitVec.ofNat 5 r.opcode.number) a.kind 0#2 a.field 0#16
  | .two a b => packWord (BitVec.ofNat 5 r.opcode.number) a.kind b.kind a.field b.field

/-- A word can carry the argument (R83, R88): register numbers at most 65535, numbers from -32768 to 65535. -/
def Arg.fitsWord : Arg → Bool
  | .reg n => decide (n ≤ 65535)
  | .num v => (Arg.num v).wellFormed
  | .ind n => decide (n ≤ 65535)

/-- A word can carry every argument of the record. -/
def Record.fitsWord (r : Record) : Bool :=
  match r.args with
  | .none => true
  | .one a => a.fitsWord
  | .two a b => a.fitsWord && b.fitsWord

/-- The word a location presents at the port `imem_word` (R307), where one can carry it. -/
def Item.toWord : Item → Option InstrWord
  | .record r => if r.fitsWord then some r.word else none
  | .malformed w => some w

/-- The word a number argument enters the machine as: `wrap16` of the integer (R83). -/
def operandOf (v : Int) : Word := wrap16 v

/-- Operand extraction (R89): the last number-kind argument after `wrap16`, if the record has one. -/
def Record.lastNumber (r : Record) : Option Word :=
  match r.args with
  | .two _ (.num v) => some (operandOf v)
  | .two (.num v) (.reg _) => some (operandOf v)
  | .two (.num v) (.ind _) => some (operandOf v)
  | .two (.reg _) (.reg _) => none
  | .two (.reg _) (.ind _) => none
  | .two (.ind _) (.reg _) => none
  | .two (.ind _) (.ind _) => none
  | .one (.num v) => some (operandOf v)
  | .one (.reg _) => none
  | .one (.ind _) => none
  | .none => none

/-- R89 on what a location holds. A malformed word corresponds to no record (R88), so it has no number argument: DEDUCED, log 8. -/
def Item.lastNumber : Item → Option Word
  | .record r => r.lastNumber
  | .malformed _ => none

/-! ## The decoder (R90, R100 to R108) -/

/-- Why an instruction does not decode: the classes of miss of R102 and R104 to R108. Every one of them is the one
condition DecodeError of 60_exceptions.md R273; the class only names the ground (log 13). -/
inductive DecodeReject where
  /-- A 48-bit word that is not well formed, an opcode number 17 to 31 among them (R88, R108). -/
  | malformedWord
  /-- HALT with arguments (R102). -/
  | haltWithArguments
  /-- JMP, JZ or JNZ with anything but one number argument (R101). -/
  | branchShape
  /-- A wrong count or kind of arguments (R107). -/
  | wrongShape
  /-- A register identifier other than R1, R2, R3 (R104). -/
  | noSuchRegister
  /-- The same register in both positions (R106). -/
  | sameRegister
  /-- One of the absent MUL and CMP pairs (R105). -/
  | absentPair
  deriving DecidableEq, Repr

/-- `MOV Rd,#`, rows 1 to 3 of R100. -/
def movImmForm (n : Word) : Reg → Instr
  | .r1 => .movR1 n
  | .r2 => .movR2 n
  | .r3 => .movR3 n

/-- `MOV Rd,Rs`, rows 4 to 9 of R100. -/
def movPair : Reg → Reg → Except DecodeReject Instr
  | .r1, .r1 => .error .sameRegister
  | .r1, .r2 => .ok .movR1R2
  | .r1, .r3 => .ok .movR1R3
  | .r2, .r1 => .ok .movR2R1
  | .r2, .r2 => .error .sameRegister
  | .r2, .r3 => .ok .movR2R3
  | .r3, .r1 => .ok .movR3R1
  | .r3, .r2 => .ok .movR3R2
  | .r3, .r3 => .error .sameRegister

/-- `LOAD Rd,#`, rows 10 to 12 of R100. -/
def loadImmForm (n : Word) : Reg → Instr
  | .r1 => .loadR1 n
  | .r2 => .loadR2 n
  | .r3 => .loadR3 n

/-- `LOAD Rd,(Rs)`, rows 13 to 18 of R100. -/
def loadPair : Reg → Reg → Except DecodeReject Instr
  | .r1, .r1 => .error .sameRegister
  | .r1, .r2 => .ok .loadR1AtR2
  | .r1, .r3 => .ok .loadR1AtR3
  | .r2, .r1 => .ok .loadR2AtR1
  | .r2, .r2 => .error .sameRegister
  | .r2, .r3 => .ok .loadR2AtR3
  | .r3, .r1 => .ok .loadR3AtR1
  | .r3, .r2 => .ok .loadR3AtR2
  | .r3, .r3 => .error .sameRegister

/-- `STORE Rs,#`, rows 19 to 21 of R100. -/
def storeImmForm (n : Word) : Reg → Instr
  | .r1 => .storeR1 n
  | .r2 => .storeR2 n
  | .r3 => .storeR3 n

/-- `STORE Rs,(Rd)`, rows 22 to 27 of R100. -/
def storePair : Reg → Reg → Except DecodeReject Instr
  | .r1, .r1 => .error .sameRegister
  | .r1, .r2 => .ok .storeR1AtR2
  | .r1, .r3 => .ok .storeR1AtR3
  | .r2, .r1 => .ok .storeR2AtR1
  | .r2, .r2 => .error .sameRegister
  | .r2, .r3 => .ok .storeR2AtR3
  | .r3, .r1 => .ok .storeR3AtR1
  | .r3, .r2 => .ok .storeR3AtR2
  | .r3, .r3 => .error .sameRegister

/-- `ADD Rd`, rows 28 to 30 of R100. -/
def addForm : Reg → Instr
  | .r1 => .addR1
  | .r2 => .addR2
  | .r3 => .addR3

/-- `SUB Ra,Rb`, rows 31 to 36 of R100. -/
def subPair : Reg → Reg → Except DecodeReject Instr
  | .r1, .r1 => .error .sameRegister
  | .r1, .r2 => .ok .subR1R2
  | .r1, .r3 => .ok .subR1R3
  | .r2, .r1 => .ok .subR2R1
  | .r2, .r2 => .error .sameRegister
  | .r2, .r3 => .ok .subR2R3
  | .r3, .r1 => .ok .subR3R1
  | .r3, .r2 => .ok .subR3R2
  | .r3, .r3 => .error .sameRegister

/-- `IDIV Ra,Rb`, rows 37 to 42 of R100. -/
def idivPair : Reg → Reg → Except DecodeReject Instr
  | .r1, .r1 => .error .sameRegister
  | .r1, .r2 => .ok .idivR1R2
  | .r1, .r3 => .ok .idivR1R3
  | .r2, .r1 => .ok .idivR2R1
  | .r2, .r2 => .error .sameRegister
  | .r2, .r3 => .ok .idivR2R3
  | .r3, .r1 => .ok .idivR3R1
  | .r3, .r2 => .ok .idivR3R2
  | .r3, .r3 => .error .sameRegister

/-- `DIV Ra,Rb`, rows 43 to 48 of R100. -/
def divPair : Reg → Reg → Except DecodeReject Instr
  | .r1, .r1 => .error .sameRegister
  | .r1, .r2 => .ok .divR1R2
  | .r1, .r3 => .ok .divR1R3
  | .r2, .r1 => .ok .divR2R1
  | .r2, .r2 => .error .sameRegister
  | .r2, .r3 => .ok .divR2R3
  | .r3, .r1 => .ok .divR3R1
  | .r3, .r2 => .ok .divR3R2
  | .r3, .r3 => .error .sameRegister

/-- `MUL Ra,Rb`, rows 49 to 51 of R100: three pairs only (R105). -/
def mulPair : Reg → Reg → Except DecodeReject Instr
  | .r1, .r1 => .error .sameRegister
  | .r1, .r2 => .ok .mulR1R2
  | .r1, .r3 => .error .absentPair
  | .r2, .r1 => .ok .mulR2R1
  | .r2, .r2 => .error .sameRegister
  | .r2, .r3 => .error .absentPair
  | .r3, .r1 => .ok .mulR3R1
  | .r3, .r2 => .error .absentPair
  | .r3, .r3 => .error .sameRegister

/-- `INC Rd`, rows 52 to 54 of R100. -/
def incForm : Reg → Instr
  | .r1 => .incR1
  | .r2 => .incR2
  | .r3 => .incR3

/-- `DEC Rd`, rows 55 to 57 of R100. -/
def decForm : Reg → Instr
  | .r1 => .decR1
  | .r2 => .decR2
  | .r3 => .decR3

/-- `CMP Rd,#`, rows 58 to 60 of R100. -/
def cmpImmForm (n : Word) : Reg → Instr
  | .r1 => .cmpR1 n
  | .r2 => .cmpR2 n
  | .r3 => .cmpR3 n

/-- `CMP Ra,Rb`, rows 61 to 63 of R100: three pairs only (R105). -/
def cmpPair : Reg → Reg → Except DecodeReject Instr
  | .r1, .r1 => .error .sameRegister
  | .r1, .r2 => .ok .cmpR1R2
  | .r1, .r3 => .ok .cmpR1R3
  | .r2, .r1 => .error .absentPair
  | .r2, .r2 => .error .sameRegister
  | .r2, .r3 => .ok .cmpR2R3
  | .r3, .r1 => .error .absentPair
  | .r3, .r2 => .error .absentPair
  | .r3, .r3 => .error .sameRegister

/-- `OUT Rd`, rows 67 to 69 of R100. -/
def outForm : Reg → Instr
  | .r1 => .outR1
  | .r2 => .outR2
  | .r3 => .outR3

/-- `IN Rd`, rows 70 to 72 of R100. -/
def inForm : Reg → Instr
  | .r1 => .inR1
  | .r2 => .inR2
  | .r3 => .inR3

/-- A form with one register argument (R104 for a register that does not exist). -/
def oneRegister (n : Nat) (form : Reg → Instr) : Except DecodeReject Instr :=
  match Reg.ofNumber n with
  | some r => .ok (form r)
  | none => .error .noSuchRegister

/-- A form with two register arguments (R104, R106). -/
def twoRegisters (n m : Nat) (form : Reg → Reg → Except DecodeReject Instr) : Except DecodeReject Instr :=
  match Reg.ofNumber n, Reg.ofNumber m with
  | some a, some b => form a b
  | some _, none => .error .noSuchRegister
  | none, _ => .error .noSuchRegister

/-- The shape `register` (format R of R84). -/
def shapeR (args : Args) (form : Reg → Instr) : Except DecodeReject Instr :=
  match args with
  | .one (.reg n) => oneRegister n form
  | _ => .error .wrongShape

/-- The shape `register, register` (format RR of R84). -/
def shapeRR (args : Args) (form : Reg → Reg → Except DecodeReject Instr) : Except DecodeReject Instr :=
  match args with
  | .two (.reg n) (.reg m) => twoRegisters n m form
  | _ => .error .wrongShape

/-- The shapes `register, number` and `register, register` (MOV, CMP; formats RN and RR of R84). -/
def shapeRNorRR (args : Args) (imm : Word → Reg → Instr) (form : Reg → Reg → Except DecodeReject Instr) :
    Except DecodeReject Instr :=
  match args with
  | .two (.reg n) (.num v) => oneRegister n (imm (operandOf v))
  | .two (.reg n) (.reg m) => twoRegisters n m form
  | _ => .error .wrongShape

/-- The shapes `register, number` and `register, indirect` (LOAD, STORE; formats RN and RI of R84). -/
def shapeRNorRI (args : Args) (imm : Word → Reg → Instr) (form : Reg → Reg → Except DecodeReject Instr) :
    Except DecodeReject Instr :=
  match args with
  | .two (.reg n) (.num v) => oneRegister n (imm (operandOf v))
  | .two (.reg n) (.ind m) => twoRegisters n m form
  | _ => .error .wrongShape

/-- The shape `number` of the branches (format J of R84, R101). -/
def shapeJ (args : Args) (form : Word → Instr) : Except DecodeReject Instr :=
  match args with
  | .one (.num v) => .ok (form (operandOf v))
  | _ => .error .branchShape

/-- The instruction form of a record, or why it has none (R100 to R107; the resolution of 40_alu_lines_tick.md R157). -/
def decodeRecord (r : Record) : Except DecodeReject Instr :=
  match r.opcode with
  | .mov => shapeRNorRR r.args movImmForm movPair
  | .load => shapeRNorRI r.args loadImmForm loadPair
  | .store => shapeRNorRI r.args storeImmForm storePair
  | .add => shapeR r.args addForm
  | .sub => shapeRR r.args subPair
  | .idiv => shapeRR r.args idivPair
  | .div => shapeRR r.args divPair
  | .mul => shapeRR r.args mulPair
  | .inc => shapeR r.args incForm
  | .dec => shapeR r.args decForm
  | .cmp => shapeRNorRR r.args cmpImmForm cmpPair
  | .jmp => shapeJ r.args .jmp
  | .jz => shapeJ r.args .jz
  | .jnz => shapeJ r.args .jnz
  | .halt =>
    match r.args with
    | .none => .ok .halt
    | _ => .error .haltWithArguments
  | .out => shapeR r.args outForm
  | .inp => shapeR r.args inForm

/-- Decoding what an instruction-memory location holds: a malformed word is a miss (R108). -/
def decodeItem : Item → Except DecodeReject Instr
  | .record r => decodeRecord r
  | .malformed _ => .error .malformedWord

/-- Decoding a 48-bit word. -/
def decode (w : InstrWord) : Except DecodeReject Instr := decodeItem (Item.ofWord w)

/-! ## The encoder -/

/-- The record an instruction form stands for (R84, R100). -/
def Instr.toRecord : Instr → Record
  | .movR1 n => ⟨.mov, .two (.reg 1) (.num n.toInt)⟩
  | .movR2 n => ⟨.mov, .two (.reg 2) (.num n.toInt)⟩
  | .movR3 n => ⟨.mov, .two (.reg 3) (.num n.toInt)⟩
  | .movR1R2 => ⟨.mov, .two (.reg 1) (.reg 2)⟩
  | .movR2R1 => ⟨.mov, .two (.reg 2) (.reg 1)⟩
  | .movR2R3 => ⟨.mov, .two (.reg 2) (.reg 3)⟩
  | .movR3R2 => ⟨.mov, .two (.reg 3) (.reg 2)⟩
  | .movR1R3 => ⟨.mov, .two (.reg 1) (.reg 3)⟩
  | .movR3R1 => ⟨.mov, .two (.reg 3) (.reg 1)⟩
  | .loadR1 n => ⟨.load, .two (.reg 1) (.num n.toInt)⟩
  | .loadR2 n => ⟨.load, .two (.reg 2) (.num n.toInt)⟩
  | .loadR3 n => ⟨.load, .two (.reg 3) (.num n.toInt)⟩
  | .loadR1AtR2 => ⟨.load, .two (.reg 1) (.ind 2)⟩
  | .loadR1AtR3 => ⟨.load, .two (.reg 1) (.ind 3)⟩
  | .loadR2AtR1 => ⟨.load, .two (.reg 2) (.ind 1)⟩
  | .loadR2AtR3 => ⟨.load, .two (.reg 2) (.ind 3)⟩
  | .loadR3AtR1 => ⟨.load, .two (.reg 3) (.ind 1)⟩
  | .loadR3AtR2 => ⟨.load, .two (.reg 3) (.ind 2)⟩
  | .storeR1 n => ⟨.store, .two (.reg 1) (.num n.toInt)⟩
  | .storeR2 n => ⟨.store, .two (.reg 2) (.num n.toInt)⟩
  | .storeR3 n => ⟨.store, .two (.reg 3) (.num n.toInt)⟩
  | .storeR1AtR2 => ⟨.store, .two (.reg 1) (.ind 2)⟩
  | .storeR1AtR3 => ⟨.store, .two (.reg 1) (.ind 3)⟩
  | .storeR2AtR1 => ⟨.store, .two (.reg 2) (.ind 1)⟩
  | .storeR2AtR3 => ⟨.store, .two (.reg 2) (.ind 3)⟩
  | .storeR3AtR1 => ⟨.store, .two (.reg 3) (.ind 1)⟩
  | .storeR3AtR2 => ⟨.store, .two (.reg 3) (.ind 2)⟩
  | .addR1 => ⟨.add, .one (.reg 1)⟩
  | .addR2 => ⟨.add, .one (.reg 2)⟩
  | .addR3 => ⟨.add, .one (.reg 3)⟩
  | .subR1R2 => ⟨.sub, .two (.reg 1) (.reg 2)⟩
  | .subR2R1 => ⟨.sub, .two (.reg 2) (.reg 1)⟩
  | .subR3R1 => ⟨.sub, .two (.reg 3) (.reg 1)⟩
  | .subR1R3 => ⟨.sub, .two (.reg 1) (.reg 3)⟩
  | .subR2R3 => ⟨.sub, .two (.reg 2) (.reg 3)⟩
  | .subR3R2 => ⟨.sub, .two (.reg 3) (.reg 2)⟩
  | .idivR1R2 => ⟨.idiv, .two (.reg 1) (.reg 2)⟩
  | .idivR2R1 => ⟨.idiv, .two (.reg 2) (.reg 1)⟩
  | .idivR3R1 => ⟨.idiv, .two (.reg 3) (.reg 1)⟩
  | .idivR1R3 => ⟨.idiv, .two (.reg 1) (.reg 3)⟩
  | .idivR2R3 => ⟨.idiv, .two (.reg 2) (.reg 3)⟩
  | .idivR3R2 => ⟨.idiv, .two (.reg 3) (.reg 2)⟩
  | .divR1R2 => ⟨.div, .two (.reg 1) (.reg 2)⟩
  | .divR2R1 => ⟨.div, .two (.reg 2) (.reg 1)⟩
  | .divR3R1 => ⟨.div, .two (.reg 3) (.reg 1)⟩
  | .divR1R3 => ⟨.div, .two (.reg 1) (.reg 3)⟩
  | .divR2R3 => ⟨.div, .two (.reg 2) (.reg 3)⟩
  | .divR3R2 => ⟨.div, .two (.reg 3) (.reg 2)⟩
  | .mulR1R2 => ⟨.mul, .two (.reg 1) (.reg 2)⟩
  | .mulR2R1 => ⟨.mul, .two (.reg 2) (.reg 1)⟩
  | .mulR3R1 => ⟨.mul, .two (.reg 3) (.reg 1)⟩
  | .incR1 => ⟨.inc, .one (.reg 1)⟩
  | .incR2 => ⟨.inc, .one (.reg 2)⟩
  | .incR3 => ⟨.inc, .one (.reg 3)⟩
  | .decR1 => ⟨.dec, .one (.reg 1)⟩
  | .decR2 => ⟨.dec, .one (.reg 2)⟩
  | .decR3 => ⟨.dec, .one (.reg 3)⟩
  | .cmpR1 n => ⟨.cmp, .two (.reg 1) (.num n.toInt)⟩
  | .cmpR2 n => ⟨.cmp, .two (.reg 2) (.num n.toInt)⟩
  | .cmpR3 n => ⟨.cmp, .two (.reg 3) (.num n.toInt)⟩
  | .cmpR1R2 => ⟨.cmp, .two (.reg 1) (.reg 2)⟩
  | .cmpR2R3 => ⟨.cmp, .two (.reg 2) (.reg 3)⟩
  | .cmpR1R3 => ⟨.cmp, .two (.reg 1) (.reg 3)⟩
  | .jmp n => ⟨.jmp, .one (.num n.toInt)⟩
  | .jz n => ⟨.jz, .one (.num n.toInt)⟩
  | .jnz n => ⟨.jnz, .one (.num n.toInt)⟩
  | .outR1 => ⟨.out, .one (.reg 1)⟩
  | .outR2 => ⟨.out, .one (.reg 2)⟩
  | .outR3 => ⟨.out, .one (.reg 3)⟩
  | .inR1 => ⟨.inp, .one (.reg 1)⟩
  | .inR2 => ⟨.inp, .one (.reg 2)⟩
  | .inR3 => ⟨.inp, .one (.reg 3)⟩
  | .halt => ⟨.halt, .none⟩

/-- The one check an instruction has: that of the record it stands for. -/
def Instr.wellFormed (i : Instr) : Bool := i.toRecord.wellFormed

/-- The 48-bit word of an instruction (R85 to R87). -/
def encode (i : Instr) : InstrWord := i.toRecord.word

/-! ## Entry micro-addresses and step counts (R100, R101, R102) -/

/-- The micro-address the decoder resolves, given the zero flag (R100 to R102); HALT has none. -/
def Instr.entry (i : Instr) (z : Bool) : Option MicroAddr :=
  match i with
  | .movR1 _ => some 2
  | .movR2 _ => some 3
  | .movR3 _ => some 4
  | .movR1R2 => some 5
  | .movR2R1 => some 6
  | .movR2R3 => some 7
  | .movR3R2 => some 8
  | .movR1R3 => some 9
  | .movR3R1 => some 10
  | .loadR1 _ => some 11
  | .loadR2 _ => some 13
  | .loadR3 _ => some 15
  | .loadR1AtR2 => some 23
  | .loadR1AtR3 => some 26
  | .loadR2AtR1 => some 29
  | .loadR2AtR3 => some 32
  | .loadR3AtR1 => some 35
  | .loadR3AtR2 => some 38
  | .storeR1 _ => some 17
  | .storeR2 _ => some 19
  | .storeR3 _ => some 21
  | .storeR1AtR2 => some 41
  | .storeR1AtR3 => some 43
  | .storeR2AtR1 => some 45
  | .storeR2AtR3 => some 47
  | .storeR3AtR1 => some 49
  | .storeR3AtR2 => some 51
  | .addR1 => some 53
  | .addR2 => some 55
  | .addR3 => some 57
  | .subR1R2 => some 59
  | .subR2R1 => some 61
  | .subR3R1 => some 63
  | .subR1R3 => some 103
  | .subR2R3 => some 105
  | .subR3R2 => some 107
  | .idivR1R2 => some 65
  | .idivR2R1 => some 67
  | .idivR3R1 => some 69
  | .idivR1R3 => some 109
  | .idivR2R3 => some 111
  | .idivR3R2 => some 113
  | .divR1R2 => some 71
  | .divR2R1 => some 73
  | .divR3R1 => some 75
  | .divR1R3 => some 97
  | .divR2R3 => some 99
  | .divR3R2 => some 101
  | .mulR1R2 => some 115
  | .mulR2R1 => some 117
  | .mulR3R1 => some 119
  | .incR1 => some 77
  | .incR2 => some 79
  | .incR3 => some 81
  | .decR1 => some 121
  | .decR2 => some 123
  | .decR3 => some 125
  | .cmpR1 _ => some 94
  | .cmpR2 _ => some 95
  | .cmpR3 _ => some 96
  | .cmpR1R2 => some 83
  | .cmpR2R3 => some 84
  | .cmpR1R3 => some 85
  | .jmp _ => some 86
  | .jz _ => some (if z then 86 else 93)
  | .jnz _ => some (if z then 93 else 86)
  | .outR1 => some 87
  | .outR2 => some 88
  | .outR3 => some 89
  | .inR1 => some 90
  | .inR2 => some 91
  | .inR3 => some 92
  | .halt => none

/-- The number of micro-words of the execution routine (R100, "steps"). -/
def Instr.steps : Instr → Nat
  | .movR1 _ => 1
  | .movR2 _ => 1
  | .movR3 _ => 1
  | .movR1R2 => 1
  | .movR2R1 => 1
  | .movR2R3 => 1
  | .movR3R2 => 1
  | .movR1R3 => 1
  | .movR3R1 => 1
  | .loadR1 _ => 2
  | .loadR2 _ => 2
  | .loadR3 _ => 2
  | .loadR1AtR2 => 3
  | .loadR1AtR3 => 3
  | .loadR2AtR1 => 3
  | .loadR2AtR3 => 3
  | .loadR3AtR1 => 3
  | .loadR3AtR2 => 3
  | .storeR1 _ => 2
  | .storeR2 _ => 2
  | .storeR3 _ => 2
  | .storeR1AtR2 => 2
  | .storeR1AtR3 => 2
  | .storeR2AtR1 => 2
  | .storeR2AtR3 => 2
  | .storeR3AtR1 => 2
  | .storeR3AtR2 => 2
  | .addR1 => 2
  | .addR2 => 2
  | .addR3 => 2
  | .subR1R2 => 2
  | .subR2R1 => 2
  | .subR3R1 => 2
  | .subR1R3 => 2
  | .subR2R3 => 2
  | .subR3R2 => 2
  | .idivR1R2 => 2
  | .idivR2R1 => 2
  | .idivR3R1 => 2
  | .idivR1R3 => 2
  | .idivR2R3 => 2
  | .idivR3R2 => 2
  | .divR1R2 => 2
  | .divR2R1 => 2
  | .divR3R1 => 2
  | .divR1R3 => 2
  | .divR2R3 => 2
  | .divR3R2 => 2
  | .mulR1R2 => 2
  | .mulR2R1 => 2
  | .mulR3R1 => 2
  | .incR1 => 2
  | .incR2 => 2
  | .incR3 => 2
  | .decR1 => 2
  | .decR2 => 2
  | .decR3 => 2
  | .cmpR1 _ => 1
  | .cmpR2 _ => 1
  | .cmpR3 _ => 1
  | .cmpR1R2 => 1
  | .cmpR2R3 => 1
  | .cmpR1R3 => 1
  | .jmp _ => 1
  | .jz _ => 1
  | .jnz _ => 1
  | .outR1 => 1
  | .outR2 => 1
  | .outR3 => 1
  | .inR1 => 1
  | .inR2 => 1
  | .inR3 => 1
  | .halt => 0

/-! ## The table as patterns of bits (R100 "word match" and "word mask", R112) -/

/-- One row of R100: a word `W` selects the row when `W and mask = pattern`. -/
structure TableRow where
  pattern : InstrWord
  mask : InstrWord
  make : InstrWord → Instr

/-- Rows 1 to 27 of R100. -/
def opcodeTable1 : List TableRow := [
  ⟨0x030000010000#48, 0xFFFFFFFF0000#48, fun w => .movR1 (value2Field w)⟩,
  ⟨0x030000020000#48, 0xFFFFFFFF0000#48, fun w => .movR2 (value2Field w)⟩,
  ⟨0x030000030000#48, 0xFFFFFFFF0000#48, fun w => .movR3 (value2Field w)⟩,
  ⟨0x028000010002#48, 0xFFFFFFFFFFFF#48, fun _ => .movR1R2⟩,
  ⟨0x028000020001#48, 0xFFFFFFFFFFFF#48, fun _ => .movR2R1⟩,
  ⟨0x028000020003#48, 0xFFFFFFFFFFFF#48, fun _ => .movR2R3⟩,
  ⟨0x028000030002#48, 0xFFFFFFFFFFFF#48, fun _ => .movR3R2⟩,
  ⟨0x028000010003#48, 0xFFFFFFFFFFFF#48, fun _ => .movR1R3⟩,
  ⟨0x028000030001#48, 0xFFFFFFFFFFFF#48, fun _ => .movR3R1⟩,
  ⟨0x0B0000010000#48, 0xFFFFFFFF0000#48, fun w => .loadR1 (value2Field w)⟩,
  ⟨0x0B0000020000#48, 0xFFFFFFFF0000#48, fun w => .loadR2 (value2Field w)⟩,
  ⟨0x0B0000030000#48, 0xFFFFFFFF0000#48, fun w => .loadR3 (value2Field w)⟩,
  ⟨0x0B8000010002#48, 0xFFFFFFFFFFFF#48, fun _ => .loadR1AtR2⟩,
  ⟨0x0B8000010003#48, 0xFFFFFFFFFFFF#48, fun _ => .loadR1AtR3⟩,
  ⟨0x0B8000020001#48, 0xFFFFFFFFFFFF#48, fun _ => .loadR2AtR1⟩,
  ⟨0x0B8000020003#48, 0xFFFFFFFFFFFF#48, fun _ => .loadR2AtR3⟩,
  ⟨0x0B8000030001#48, 0xFFFFFFFFFFFF#48, fun _ => .loadR3AtR1⟩,
  ⟨0x0B8000030002#48, 0xFFFFFFFFFFFF#48, fun _ => .loadR3AtR2⟩,
  ⟨0x130000010000#48, 0xFFFFFFFF0000#48, fun w => .storeR1 (value2Field w)⟩,
  ⟨0x130000020000#48, 0xFFFFFFFF0000#48, fun w => .storeR2 (value2Field w)⟩,
  ⟨0x130000030000#48, 0xFFFFFFFF0000#48, fun w => .storeR3 (value2Field w)⟩,
  ⟨0x138000010002#48, 0xFFFFFFFFFFFF#48, fun _ => .storeR1AtR2⟩,
  ⟨0x138000010003#48, 0xFFFFFFFFFFFF#48, fun _ => .storeR1AtR3⟩,
  ⟨0x138000020001#48, 0xFFFFFFFFFFFF#48, fun _ => .storeR2AtR1⟩,
  ⟨0x138000020003#48, 0xFFFFFFFFFFFF#48, fun _ => .storeR2AtR3⟩,
  ⟨0x138000030001#48, 0xFFFFFFFFFFFF#48, fun _ => .storeR3AtR1⟩,
  ⟨0x138000030002#48, 0xFFFFFFFFFFFF#48, fun _ => .storeR3AtR2⟩]

/-- Rows 28 to 51 of R100. -/
def opcodeTable2 : List TableRow := [
  ⟨0x1A0000010000#48, 0xFFFFFFFFFFFF#48, fun _ => .addR1⟩,
  ⟨0x1A0000020000#48, 0xFFFFFFFFFFFF#48, fun _ => .addR2⟩,
  ⟨0x1A0000030000#48, 0xFFFFFFFFFFFF#48, fun _ => .addR3⟩,
  ⟨0x228000010002#48, 0xFFFFFFFFFFFF#48, fun _ => .subR1R2⟩,
  ⟨0x228000020001#48, 0xFFFFFFFFFFFF#48, fun _ => .subR2R1⟩,
  ⟨0x228000030001#48, 0xFFFFFFFFFFFF#48, fun _ => .subR3R1⟩,
  ⟨0x228000010003#48, 0xFFFFFFFFFFFF#48, fun _ => .subR1R3⟩,
  ⟨0x228000020003#48, 0xFFFFFFFFFFFF#48, fun _ => .subR2R3⟩,
  ⟨0x228000030002#48, 0xFFFFFFFFFFFF#48, fun _ => .subR3R2⟩,
  ⟨0x2A8000010002#48, 0xFFFFFFFFFFFF#48, fun _ => .idivR1R2⟩,
  ⟨0x2A8000020001#48, 0xFFFFFFFFFFFF#48, fun _ => .idivR2R1⟩,
  ⟨0x2A8000030001#48, 0xFFFFFFFFFFFF#48, fun _ => .idivR3R1⟩,
  ⟨0x2A8000010003#48, 0xFFFFFFFFFFFF#48, fun _ => .idivR1R3⟩,
  ⟨0x2A8000020003#48, 0xFFFFFFFFFFFF#48, fun _ => .idivR2R3⟩,
  ⟨0x2A8000030002#48, 0xFFFFFFFFFFFF#48, fun _ => .idivR3R2⟩,
  ⟨0x328000010002#48, 0xFFFFFFFFFFFF#48, fun _ => .divR1R2⟩,
  ⟨0x328000020001#48, 0xFFFFFFFFFFFF#48, fun _ => .divR2R1⟩,
  ⟨0x328000030001#48, 0xFFFFFFFFFFFF#48, fun _ => .divR3R1⟩,
  ⟨0x328000010003#48, 0xFFFFFFFFFFFF#48, fun _ => .divR1R3⟩,
  ⟨0x328000020003#48, 0xFFFFFFFFFFFF#48, fun _ => .divR2R3⟩,
  ⟨0x328000030002#48, 0xFFFFFFFFFFFF#48, fun _ => .divR3R2⟩,
  ⟨0x3A8000010002#48, 0xFFFFFFFFFFFF#48, fun _ => .mulR1R2⟩,
  ⟨0x3A8000020001#48, 0xFFFFFFFFFFFF#48, fun _ => .mulR2R1⟩,
  ⟨0x3A8000030001#48, 0xFFFFFFFFFFFF#48, fun _ => .mulR3R1⟩]

/-- Rows 52 to 73 of R100. -/
def opcodeTable3 : List TableRow := [
  ⟨0x420000010000#48, 0xFFFFFFFFFFFF#48, fun _ => .incR1⟩,
  ⟨0x420000020000#48, 0xFFFFFFFFFFFF#48, fun _ => .incR2⟩,
  ⟨0x420000030000#48, 0xFFFFFFFFFFFF#48, fun _ => .incR3⟩,
  ⟨0x4A0000010000#48, 0xFFFFFFFFFFFF#48, fun _ => .decR1⟩,
  ⟨0x4A0000020000#48, 0xFFFFFFFFFFFF#48, fun _ => .decR2⟩,
  ⟨0x4A0000030000#48, 0xFFFFFFFFFFFF#48, fun _ => .decR3⟩,
  ⟨0x530000010000#48, 0xFFFFFFFF0000#48, fun w => .cmpR1 (value2Field w)⟩,
  ⟨0x530000020000#48, 0xFFFFFFFF0000#48, fun w => .cmpR2 (value2Field w)⟩,
  ⟨0x530000030000#48, 0xFFFFFFFF0000#48, fun w => .cmpR3 (value2Field w)⟩,
  ⟨0x528000010002#48, 0xFFFFFFFFFFFF#48, fun _ => .cmpR1R2⟩,
  ⟨0x528000020003#48, 0xFFFFFFFFFFFF#48, fun _ => .cmpR2R3⟩,
  ⟨0x528000010003#48, 0xFFFFFFFFFFFF#48, fun _ => .cmpR1R3⟩,
  ⟨0x5C0000000000#48, 0xFFFF0000FFFF#48, fun w => .jmp (value1Field w)⟩,
  ⟨0x640000000000#48, 0xFFFF0000FFFF#48, fun w => .jz (value1Field w)⟩,
  ⟨0x6C0000000000#48, 0xFFFF0000FFFF#48, fun w => .jnz (value1Field w)⟩,
  ⟨0x7A0000010000#48, 0xFFFFFFFFFFFF#48, fun _ => .outR1⟩,
  ⟨0x7A0000020000#48, 0xFFFFFFFFFFFF#48, fun _ => .outR2⟩,
  ⟨0x7A0000030000#48, 0xFFFFFFFFFFFF#48, fun _ => .outR3⟩,
  ⟨0x820000010000#48, 0xFFFFFFFFFFFF#48, fun _ => .inR1⟩,
  ⟨0x820000020000#48, 0xFFFFFFFFFFFF#48, fun _ => .inR2⟩,
  ⟨0x820000030000#48, 0xFFFFFFFFFFFF#48, fun _ => .inR3⟩,
  ⟨0x700000000000#48, 0xFFFFFFFFFFFF#48, fun _ => .halt⟩]

/-- The 73 rows of R100. -/
def opcodeTable : List TableRow := opcodeTable1 ++ opcodeTable2 ++ opcodeTable3

/-- A decoder written from the table alone (R112). -/
def decodeByTable (w : InstrWord) : Option Instr :=
  (opcodeTable.find? fun row => w &&& row.mask == row.pattern).map fun row => row.make w

/-! ## The host's question -/

/-- The 48-bit word whose bits are the low `nbits` bits of `w`, every higher bit 0. An instruction is one 48-bit word
(R109), so its numbering in opcode_table.json is the numbering of R85. -/
def wordOfBits (nbits w : Nat) : InstrWord := BitVec.ofNat 48 (w % 2 ^ nbits)

/-- What the decoder reads from an instruction whose bits are `w`. -/
def decodeTableWord (nbits w : Nat) : Option Instr := (decode (wordOfBits nbits w)).toOption

end Sys2Proof
end

