-- ==== Sys2Proof/Machine/MicroWord.lean ====
section
/-! DEFINITION. The control-line vocabulary and the micro-word as plain data (40_alu_lines_tick.md R130, R131;
41_control_store.md R180). Every line has a value type of its own (R131). -/

namespace Sys2Proof.Machine

/-- The values of `SEL_MUX1`, and the register-write mux's stored selection (R34, R137). -/
inductive Mux1Sel where
  | alu | or | input | dr | mux2
  deriving DecidableEq, Repr

/-- The values of `SEL_MUX2`, and the register-read mux's stored selection (R34, R135). -/
inductive Mux2Sel where
  | r1 | r2 | r3
  deriving DecidableEq, Repr

/-- The values of `SEL_MUX3`, and the address mux's stored selection (R34, R136). -/
inductive Mux3Sel where
  | operand | mux2
  deriving DecidableEq, Repr

/-- The values of `SEL_IP`, and the select-IP mux's stored selection (R35, R138). -/
inductive IpSel where
  | inc | operand
  deriving DecidableEq, Repr

/-- The values of `SEL_MPC`, and the address-select mux's stored selection (R35, R139). -/
inductive MpcSel where
  | increment | next | null
  deriving DecidableEq, Repr

/-- The values of `SEL_OP1` (R147). -/
inductive Op1Sel where
  | r1 | r2 | r3
  deriving DecidableEq, Repr

/-- The values of `SEL_OP2` (R147). -/
inductive Op2Sel where
  | r1 | r2 | r3 | or
  deriving DecidableEq, Repr

/-- The values of `LATCH_REG` (R148). -/
inductive LatchSel where
  | r1 | r2 | r3
  deriving DecidableEq, Repr

/-- The values of `ALU_OP`: the seven operations (R120). `div` is the floor quotient, `idiv` the remainder (R123). -/
inductive AluOp where
  | add | sub | mul | inc | dec | div | idiv
  deriving DecidableEq, Repr

/-- The 19 control lines, in the numbering of R130. -/
inductive Line where
  | fetch | decode | latchOr | selMux2 | selMux3 | selMux1 | selIp | selMpc | latchAr | memRead | memWrite | latchDr
  | selOp1 | selOp2 | aluOp | latchReg | output | inputAdvance | latchIp
  deriving DecidableEq, Repr

/-- A micro-word: the value each active line carries; a strobe is in the map or not, an absent line is inactive (R180).
The fields stand in the firing order of R161. -/
structure MicroWord where
  fetch : Bool := false
  decode : Bool := false
  latchOr : Bool := false
  selMux2 : Option Mux2Sel := none
  selMux3 : Option Mux3Sel := none
  selMux1 : Option Mux1Sel := none
  selIp : Option IpSel := none
  selMpc : Option MpcSel := none
  latchAr : Bool := false
  memRead : Bool := false
  memWrite : Bool := false
  latchDr : Bool := false
  selOp1 : Option Op1Sel := none
  selOp2 : Option Op2Sel := none
  aluOp : Option AluOp := none
  latchReg : Option LatchSel := none
  output : Bool := false
  inputAdvance : Bool := false
  latchIp : Bool := false
  deriving DecidableEq, Repr

end Sys2Proof.Machine
end

