-- ==== Sys2Proof/Machine/ControlStore.lean ====
section
/-! DEFINITION. The control store: the 127 micro-words of 41_control_store.md R190, in their normative form (sets of lines and
values), a constant of the hardware (10_state.md R40, R47). -/

namespace Sys2Proof.Machine

/-- Micro-words 0 to 1 of R190. -/
def controlStore0 : List MicroWord := [
  -- 0: fetch step 1: IR <- IMem[IP]
  { fetch := true, selMpc := some .increment },
  -- 1: fetch step 2: decode, OR <- operand bus, dispatch
  { decode := true, latchOr := true, selMpc := some .next }]

/-- Micro-words 2 to 22 of R190. -/
def controlStore1 : List MicroWord := [
  -- 2: MOV R1,#
  { selMux1 := some .or, selIp := some .inc, selMpc := some .null, latchReg := some .r1, latchIp := true },
  -- 3: MOV R2,#
  { selMux1 := some .or, selIp := some .inc, selMpc := some .null, latchReg := some .r2, latchIp := true },
  -- 4: MOV R3,#
  { selMux1 := some .or, selIp := some .inc, selMpc := some .null, latchReg := some .r3, latchIp := true },
  -- 5: MOV R1,R2
  { selMux2 := some .r2, selMux1 := some .mux2, selIp := some .inc, selMpc := some .null, latchReg := some .r1, latchIp := true },
  -- 6: MOV R2,R1
  { selMux2 := some .r1, selMux1 := some .mux2, selIp := some .inc, selMpc := some .null, latchReg := some .r2, latchIp := true },
  -- 7: MOV R2,R3
  { selMux2 := some .r3, selMux1 := some .mux2, selIp := some .inc, selMpc := some .null, latchReg := some .r2, latchIp := true },
  -- 8: MOV R3,R2
  { selMux2 := some .r2, selMux1 := some .mux2, selIp := some .inc, selMpc := some .null, latchReg := some .r3, latchIp := true },
  -- 9: MOV R1,R3
  { selMux2 := some .r3, selMux1 := some .mux2, selIp := some .inc, selMpc := some .null, latchReg := some .r1, latchIp := true },
  -- 10: MOV R3,R1
  { selMux2 := some .r1, selMux1 := some .mux2, selIp := some .inc, selMpc := some .null, latchReg := some .r3, latchIp := true },
  -- 11: LOAD R1,# step 1
  { selMux3 := some .operand, selMpc := some .increment, latchAr := true, memRead := true, latchDr := true },
  -- 12: LOAD R1,# step 2
  { selMux1 := some .dr, selIp := some .inc, selMpc := some .null, latchReg := some .r1, latchIp := true },
  -- 13: LOAD R2,# step 1
  { selMux3 := some .operand, selMpc := some .increment, latchAr := true, memRead := true, latchDr := true },
  -- 14: LOAD R2,# step 2
  { selMux1 := some .dr, selIp := some .inc, selMpc := some .null, latchReg := some .r2, latchIp := true },
  -- 15: LOAD R3,# step 1
  { selMux3 := some .operand, selMpc := some .increment, latchAr := true, memRead := true, latchDr := true },
  -- 16: LOAD R3,# step 2
  { selMux1 := some .dr, selIp := some .inc, selMpc := some .null, latchReg := some .r3, latchIp := true },
  -- 17: STORE R1,# step 1
  { selMux2 := some .r1, selMux3 := some .operand, selMpc := some .increment, latchAr := true },
  -- 18: STORE R1,# step 2
  { selIp := some .inc, selMpc := some .null, memWrite := true, latchIp := true },
  -- 19: STORE R2,# step 1
  { selMux2 := some .r2, selMux3 := some .operand, selMpc := some .increment, latchAr := true },
  -- 20: STORE R2,# step 2
  { selIp := some .inc, selMpc := some .null, memWrite := true, latchIp := true },
  -- 21: STORE R3,# step 1
  { selMux2 := some .r3, selMux3 := some .operand, selMpc := some .increment, latchAr := true },
  -- 22: STORE R3,# step 2
  { selIp := some .inc, selMpc := some .null, memWrite := true, latchIp := true }]

/-- Micro-words 23 to 52 of R190. -/
def controlStore2 : List MicroWord := [
  -- 23: LOAD R1,(R2) step 1
  { selMux2 := some .r2, selMux3 := some .mux2, selMpc := some .increment, latchAr := true },
  -- 24: LOAD R1,(R2) step 2
  { selMpc := some .increment, memRead := true, latchDr := true },
  -- 25: LOAD R1,(R2) step 3
  { selMux1 := some .dr, selIp := some .inc, selMpc := some .null, latchReg := some .r1, latchIp := true },
  -- 26: LOAD R1,(R3) step 1
  { selMux2 := some .r3, selMux3 := some .mux2, selMpc := some .increment, latchAr := true },
  -- 27: LOAD R1,(R3) step 2
  { selMpc := some .increment, memRead := true, latchDr := true },
  -- 28: LOAD R1,(R3) step 3
  { selMux1 := some .dr, selIp := some .inc, selMpc := some .null, latchReg := some .r1, latchIp := true },
  -- 29: LOAD R2,(R1) step 1
  { selMux2 := some .r1, selMux3 := some .mux2, selMpc := some .increment, latchAr := true },
  -- 30: LOAD R2,(R1) step 2
  { selMpc := some .increment, memRead := true, latchDr := true },
  -- 31: LOAD R2,(R1) step 3
  { selMux1 := some .dr, selIp := some .inc, selMpc := some .null, latchReg := some .r2, latchIp := true },
  -- 32: LOAD R2,(R3) step 1
  { selMux2 := some .r3, selMux3 := some .mux2, selMpc := some .increment, latchAr := true },
  -- 33: LOAD R2,(R3) step 2
  { selMpc := some .increment, memRead := true, latchDr := true },
  -- 34: LOAD R2,(R3) step 3
  { selMux1 := some .dr, selIp := some .inc, selMpc := some .null, latchReg := some .r2, latchIp := true },
  -- 35: LOAD R3,(R1) step 1
  { selMux2 := some .r1, selMux3 := some .mux2, selMpc := some .increment, latchAr := true },
  -- 36: LOAD R3,(R1) step 2
  { selMpc := some .increment, memRead := true, latchDr := true },
  -- 37: LOAD R3,(R1) step 3
  { selMux1 := some .dr, selIp := some .inc, selMpc := some .null, latchReg := some .r3, latchIp := true },
  -- 38: LOAD R3,(R2) step 1
  { selMux2 := some .r2, selMux3 := some .mux2, selMpc := some .increment, latchAr := true },
  -- 39: LOAD R3,(R2) step 2
  { selMpc := some .increment, memRead := true, latchDr := true },
  -- 40: LOAD R3,(R2) step 3
  { selMux1 := some .dr, selIp := some .inc, selMpc := some .null, latchReg := some .r3, latchIp := true },
  -- 41: STORE R1,(R2) step 1
  { selMux2 := some .r2, selMux3 := some .mux2, selMpc := some .increment, latchAr := true },
  -- 42: STORE R1,(R2) step 2
  { selMux2 := some .r1, selIp := some .inc, selMpc := some .null, memWrite := true, latchIp := true },
  -- 43: STORE R1,(R3) step 1
  { selMux2 := some .r3, selMux3 := some .mux2, selMpc := some .increment, latchAr := true },
  -- 44: STORE R1,(R3) step 2
  { selMux2 := some .r1, selIp := some .inc, selMpc := some .null, memWrite := true, latchIp := true },
  -- 45: STORE R2,(R1) step 1
  { selMux2 := some .r1, selMux3 := some .mux2, selMpc := some .increment, latchAr := true },
  -- 46: STORE R2,(R1) step 2
  { selMux2 := some .r2, selIp := some .inc, selMpc := some .null, memWrite := true, latchIp := true },
  -- 47: STORE R2,(R3) step 1
  { selMux2 := some .r3, selMux3 := some .mux2, selMpc := some .increment, latchAr := true },
  -- 48: STORE R2,(R3) step 2
  { selMux2 := some .r2, selIp := some .inc, selMpc := some .null, memWrite := true, latchIp := true },
  -- 49: STORE R3,(R1) step 1
  { selMux2 := some .r1, selMux3 := some .mux2, selMpc := some .increment, latchAr := true },
  -- 50: STORE R3,(R1) step 2
  { selMux2 := some .r3, selIp := some .inc, selMpc := some .null, memWrite := true, latchIp := true },
  -- 51: STORE R3,(R2) step 1
  { selMux2 := some .r2, selMux3 := some .mux2, selMpc := some .increment, latchAr := true },
  -- 52: STORE R3,(R2) step 2
  { selMux2 := some .r3, selIp := some .inc, selMpc := some .null, memWrite := true, latchIp := true }]

/-- Micro-words 53 to 82 of R190. -/
def controlStore3 : List MicroWord := [
  -- 53: ADD R1 step 1
  { selMpc := some .increment, selOp1 := some .r2, selOp2 := some .r3, aluOp := some .add },
  -- 54: ADD R1 step 2
  { selMux1 := some .alu, selIp := some .inc, selMpc := some .null, latchReg := some .r1, latchIp := true },
  -- 55: ADD R2 step 1
  { selMpc := some .increment, selOp1 := some .r1, selOp2 := some .r3, aluOp := some .add },
  -- 56: ADD R2 step 2
  { selMux1 := some .alu, selIp := some .inc, selMpc := some .null, latchReg := some .r2, latchIp := true },
  -- 57: ADD R3 step 1
  { selMpc := some .increment, selOp1 := some .r1, selOp2 := some .r2, aluOp := some .add },
  -- 58: ADD R3 step 2
  { selMux1 := some .alu, selIp := some .inc, selMpc := some .null, latchReg := some .r3, latchIp := true },
  -- 59: SUB R1,R2 step 1
  { selMpc := some .increment, selOp1 := some .r1, selOp2 := some .r2, aluOp := some .sub },
  -- 60: SUB R1,R2 step 2
  { selMux1 := some .alu, selIp := some .inc, selMpc := some .null, latchReg := some .r1, latchIp := true },
  -- 61: SUB R2,R1 step 1
  { selMpc := some .increment, selOp1 := some .r2, selOp2 := some .r1, aluOp := some .sub },
  -- 62: SUB R2,R1 step 2
  { selMux1 := some .alu, selIp := some .inc, selMpc := some .null, latchReg := some .r2, latchIp := true },
  -- 63: SUB R3,R1 step 1
  { selMpc := some .increment, selOp1 := some .r3, selOp2 := some .r1, aluOp := some .sub },
  -- 64: SUB R3,R1 step 2
  { selMux1 := some .alu, selIp := some .inc, selMpc := some .null, latchReg := some .r3, latchIp := true },
  -- 65: IDIV R1,R2 step 1
  { selMpc := some .increment, selOp1 := some .r1, selOp2 := some .r2, aluOp := some .idiv },
  -- 66: IDIV R1,R2 step 2
  { selMux1 := some .alu, selIp := some .inc, selMpc := some .null, latchReg := some .r1, latchIp := true },
  -- 67: IDIV R2,R1 step 1
  { selMpc := some .increment, selOp1 := some .r2, selOp2 := some .r1, aluOp := some .idiv },
  -- 68: IDIV R2,R1 step 2
  { selMux1 := some .alu, selIp := some .inc, selMpc := some .null, latchReg := some .r2, latchIp := true },
  -- 69: IDIV R3,R1 step 1
  { selMpc := some .increment, selOp1 := some .r3, selOp2 := some .r1, aluOp := some .idiv },
  -- 70: IDIV R3,R1 step 2
  { selMux1 := some .alu, selIp := some .inc, selMpc := some .null, latchReg := some .r3, latchIp := true },
  -- 71: DIV R1,R2 step 1
  { selMpc := some .increment, selOp1 := some .r1, selOp2 := some .r2, aluOp := some .div },
  -- 72: DIV R1,R2 step 2
  { selMux1 := some .alu, selIp := some .inc, selMpc := some .null, latchReg := some .r1, latchIp := true },
  -- 73: DIV R2,R1 step 1
  { selMpc := some .increment, selOp1 := some .r2, selOp2 := some .r1, aluOp := some .div },
  -- 74: DIV R2,R1 step 2
  { selMux1 := some .alu, selIp := some .inc, selMpc := some .null, latchReg := some .r2, latchIp := true },
  -- 75: DIV R3,R1 step 1
  { selMpc := some .increment, selOp1 := some .r3, selOp2 := some .r1, aluOp := some .div },
  -- 76: DIV R3,R1 step 2
  { selMux1 := some .alu, selIp := some .inc, selMpc := some .null, latchReg := some .r3, latchIp := true },
  -- 77: INC R1 step 1
  { selMpc := some .increment, selOp1 := some .r1, aluOp := some .inc },
  -- 78: INC R1 step 2
  { selMux1 := some .alu, selIp := some .inc, selMpc := some .null, latchReg := some .r1, latchIp := true },
  -- 79: INC R2 step 1
  { selMpc := some .increment, selOp1 := some .r2, aluOp := some .inc },
  -- 80: INC R2 step 2
  { selMux1 := some .alu, selIp := some .inc, selMpc := some .null, latchReg := some .r2, latchIp := true },
  -- 81: INC R3 step 1
  { selMpc := some .increment, selOp1 := some .r3, aluOp := some .inc },
  -- 82: INC R3 step 2
  { selMux1 := some .alu, selIp := some .inc, selMpc := some .null, latchReg := some .r3, latchIp := true }]

/-- Micro-words 83 to 102 of R190. -/
def controlStore4 : List MicroWord := [
  -- 83: CMP R1,R2
  { selIp := some .inc, selMpc := some .null, selOp1 := some .r1, selOp2 := some .r2, aluOp := some .sub, latchIp := true },
  -- 84: CMP R2,R3
  { selIp := some .inc, selMpc := some .null, selOp1 := some .r2, selOp2 := some .r3, aluOp := some .sub, latchIp := true },
  -- 85: CMP R1,R3
  { selIp := some .inc, selMpc := some .null, selOp1 := some .r1, selOp2 := some .r3, aluOp := some .sub, latchIp := true },
  -- 86: branch taken (JMP; JZ with Z=1; JNZ with Z=0)
  { selIp := some .operand, selMpc := some .null, latchIp := true },
  -- 87: OUT R1
  { selMux2 := some .r1, selIp := some .inc, selMpc := some .null, output := true, latchIp := true },
  -- 88: OUT R2
  { selMux2 := some .r2, selIp := some .inc, selMpc := some .null, output := true, latchIp := true },
  -- 89: OUT R3
  { selMux2 := some .r3, selIp := some .inc, selMpc := some .null, output := true, latchIp := true },
  -- 90: IN R1
  { selMux1 := some .input, selIp := some .inc, selMpc := some .null, latchReg := some .r1, inputAdvance := true, latchIp := true },
  -- 91: IN R2
  { selMux1 := some .input, selIp := some .inc, selMpc := some .null, latchReg := some .r2, inputAdvance := true, latchIp := true },
  -- 92: IN R3
  { selMux1 := some .input, selIp := some .inc, selMpc := some .null, latchReg := some .r3, inputAdvance := true, latchIp := true },
  -- 93: branch not taken (JZ with Z=0; JNZ with Z=1)
  { selIp := some .inc, selMpc := some .null, latchIp := true },
  -- 94: CMP R1,#
  { selIp := some .inc, selMpc := some .null, selOp1 := some .r1, selOp2 := some .or, aluOp := some .sub, latchIp := true },
  -- 95: CMP R2,#
  { selIp := some .inc, selMpc := some .null, selOp1 := some .r2, selOp2 := some .or, aluOp := some .sub, latchIp := true },
  -- 96: CMP R3,#
  { selIp := some .inc, selMpc := some .null, selOp1 := some .r3, selOp2 := some .or, aluOp := some .sub, latchIp := true },
  -- 97: DIV R1,R3 step 1
  { selMpc := some .increment, selOp1 := some .r1, selOp2 := some .r3, aluOp := some .div },
  -- 98: DIV R1,R3 step 2
  { selMux1 := some .alu, selIp := some .inc, selMpc := some .null, latchReg := some .r1, latchIp := true },
  -- 99: DIV R2,R3 step 1
  { selMpc := some .increment, selOp1 := some .r2, selOp2 := some .r3, aluOp := some .div },
  -- 100: DIV R2,R3 step 2
  { selMux1 := some .alu, selIp := some .inc, selMpc := some .null, latchReg := some .r2, latchIp := true },
  -- 101: DIV R3,R2 step 1
  { selMpc := some .increment, selOp1 := some .r3, selOp2 := some .r2, aluOp := some .div },
  -- 102: DIV R3,R2 step 2
  { selMux1 := some .alu, selIp := some .inc, selMpc := some .null, latchReg := some .r3, latchIp := true }]

/-- Micro-words 103 to 126 of R190. -/
def controlStore5 : List MicroWord := [
  -- 103: SUB R1,R3 step 1
  { selMpc := some .increment, selOp1 := some .r1, selOp2 := some .r3, aluOp := some .sub },
  -- 104: SUB R1,R3 step 2
  { selMux1 := some .alu, selIp := some .inc, selMpc := some .null, latchReg := some .r1, latchIp := true },
  -- 105: SUB R2,R3 step 1
  { selMpc := some .increment, selOp1 := some .r2, selOp2 := some .r3, aluOp := some .sub },
  -- 106: SUB R2,R3 step 2
  { selMux1 := some .alu, selIp := some .inc, selMpc := some .null, latchReg := some .r2, latchIp := true },
  -- 107: SUB R3,R2 step 1
  { selMpc := some .increment, selOp1 := some .r3, selOp2 := some .r2, aluOp := some .sub },
  -- 108: SUB R3,R2 step 2
  { selMux1 := some .alu, selIp := some .inc, selMpc := some .null, latchReg := some .r3, latchIp := true },
  -- 109: IDIV R1,R3 step 1
  { selMpc := some .increment, selOp1 := some .r1, selOp2 := some .r3, aluOp := some .idiv },
  -- 110: IDIV R1,R3 step 2
  { selMux1 := some .alu, selIp := some .inc, selMpc := some .null, latchReg := some .r1, latchIp := true },
  -- 111: IDIV R2,R3 step 1
  { selMpc := some .increment, selOp1 := some .r2, selOp2 := some .r3, aluOp := some .idiv },
  -- 112: IDIV R2,R3 step 2
  { selMux1 := some .alu, selIp := some .inc, selMpc := some .null, latchReg := some .r2, latchIp := true },
  -- 113: IDIV R3,R2 step 1
  { selMpc := some .increment, selOp1 := some .r3, selOp2 := some .r2, aluOp := some .idiv },
  -- 114: IDIV R3,R2 step 2
  { selMux1 := some .alu, selIp := some .inc, selMpc := some .null, latchReg := some .r3, latchIp := true },
  -- 115: MUL R1,R2 step 1
  { selMpc := some .increment, selOp1 := some .r1, selOp2 := some .r2, aluOp := some .mul },
  -- 116: MUL R1,R2 step 2
  { selMux1 := some .alu, selIp := some .inc, selMpc := some .null, latchReg := some .r1, latchIp := true },
  -- 117: MUL R2,R1 step 1
  { selMpc := some .increment, selOp1 := some .r2, selOp2 := some .r1, aluOp := some .mul },
  -- 118: MUL R2,R1 step 2
  { selMux1 := some .alu, selIp := some .inc, selMpc := some .null, latchReg := some .r2, latchIp := true },
  -- 119: MUL R3,R1 step 1
  { selMpc := some .increment, selOp1 := some .r3, selOp2 := some .r1, aluOp := some .mul },
  -- 120: MUL R3,R1 step 2
  { selMux1 := some .alu, selIp := some .inc, selMpc := some .null, latchReg := some .r3, latchIp := true },
  -- 121: DEC R1 step 1
  { selMpc := some .increment, selOp1 := some .r1, aluOp := some .dec },
  -- 122: DEC R1 step 2
  { selMux1 := some .alu, selIp := some .inc, selMpc := some .null, latchReg := some .r1, latchIp := true },
  -- 123: DEC R2 step 1
  { selMpc := some .increment, selOp1 := some .r2, aluOp := some .dec },
  -- 124: DEC R2 step 2
  { selMux1 := some .alu, selIp := some .inc, selMpc := some .null, latchReg := some .r2, latchIp := true },
  -- 125: DEC R3 step 1
  { selMpc := some .increment, selOp1 := some .r3, aluOp := some .dec },
  -- 126: DEC R3 step 2
  { selMux1 := some .alu, selIp := some .inc, selMpc := some .null, latchReg := some .r3, latchIp := true }]

/-- The control store, micro-addresses 0 to 126 (R190). -/
def controlStore : List MicroWord :=
  controlStore0 ++ controlStore1 ++ controlStore2 ++ controlStore3 ++ controlStore4 ++ controlStore5

/-- `CS[a]` (R40). -/
def cs (a : MicroAddr) : MicroWord := controlStore.getD a.val {}

end Sys2Proof.Machine
end

