-- ==== Sys2Proof/Machine/State.lean ====
section
/-! DEFINITION. The state of the core (10_state.md R20), its terminal statuses (R44, 60_exceptions.md R270) and its value after
reset (R46). -/

namespace Sys2Proof.Machine

/-- The fatal errors a tick can raise and the information each carries (R270). -/
inductive ErrorKind where
  /-- DecodeError: the offending instruction (R273). -/
  | decodeError (item : Item)
  /-- ArithmeticError: the operation and the dividend (R274). -/
  | arithmeticError (op : AluOp) (dividend : Word)
  /-- OutOfRangeInput: the character code (R275). -/
  | outOfRangeInput (code : Nat)
  /-- MemoryBoundsError: the value of `AR` (R276). -/
  | memoryBoundsError (ar : Word)
  /-- InstructionBoundsError: the value of `pc` (R277). -/
  | instructionBoundsError (pc : Word)
  /-- OutOfRangeOutput: the value of mux2 (R278). -/
  | outOfRangeOutput (v : Word)
  /-- ControlStoreBoundsError: the next micro-address (R279). -/
  | controlStoreBoundsError (next : Nat)
  deriving DecidableEq, Repr

/-- `status`: Running or one of the terminal values (R44). -/
inductive Status where
  | running
  | halted
  | inputExhausted
  | error (kind : ErrorKind)
  deriving DecidableEq, Repr

/-- The complete state of the core: the record of R20, every field under the spec's name. Data memory is the list of
(word address, word) pairs whose word is not 0, addresses strictly rising (R38, R68; log 5, 6). -/
structure State where
  /-- `x[1]` (R21). -/
  r1 : Word
  /-- `x[2]` (R21). -/
  r2 : Word
  /-- `x[3]` (R21). -/
  r3 : Word
  /-- `AR`, the address register (R30). -/
  ar : Word
  /-- `DR`, the data register (R31). -/
  dr : Word
  /-- `OR`, the operand register (R32). -/
  orReg : Word
  /-- `MO`, the memory-output latch (R33). -/
  mo : Word
  /-- `mux1_sel` (R34). -/
  mux1Sel : Mux1Sel
  /-- `mux2_sel` (R34). -/
  mux2Sel : Mux2Sel
  /-- `mux3_sel` (R34). -/
  mux3Sel : Mux3Sel
  /-- `Mem`, data memory (R38). -/
  mem : List (Nat × Word)
  /-- `in_q`, the input queue, head first (R41). -/
  inQ : List Nat
  /-- `out`, the output sequence, first character first (R42). -/
  out : List Nat
  /-- `op1`, the ALU's first operand latch (R29). -/
  op1 : Word
  /-- `op2`, the ALU's second operand latch (R29). -/
  op2 : Word
  /-- `res`, the ALU's result latch (R29). -/
  res : Word
  /-- `Z`, the zero flag (R28). -/
  z : Bool
  /-- `pc`, the instruction pointer IP (R24). -/
  pc : Word
  /-- `mpc`, the current micro-address (R26). -/
  mpc : MicroAddr
  /-- `mw`, the current micro-word (R27). -/
  mw : MicroWord
  /-- `ip_sel`, the select-IP mux's selection (R35). -/
  ipSel : IpSel
  /-- `mpc_sel`, the address-select mux's selection (R35). -/
  mpcSel : MpcSel
  /-- `IR`, the instruction register, empty before the first fetch (R36). -/
  ir : Option Item
  /-- `IMem`, instruction memory: location `k` is element `k` (R39). -/
  imem : List Item
  /-- `tick`, the tick counter (R43). -/
  tick : Nat
  /-- `status` (R44). -/
  status : Status
  /-- `dec_operand`, the decoder's held operand, the operand bus (R37). -/
  decOperand : Word
  /-- `dec_entry`, the entry micro-address the decoder last resolved (R37). -/
  decEntry : MicroAddr
  deriving DecidableEq, Repr

/-- The state after reset (R46, R300) of the empty launch: no program, no data, no input. The values the source does not give
are the spec's decision D10 (log 4); a program is loaded from outside the machine (log 3). -/
def State.reset : State where
  r1 := 0
  r2 := 0
  r3 := 0
  ar := 0
  dr := 0
  orReg := 0
  mo := 0
  mux1Sel := .alu
  mux2Sel := .r1
  mux3Sel := .operand
  mem := []
  inQ := []
  out := []
  op1 := 0
  op2 := 0
  res := 0
  z := false
  pc := 0
  mpc := 0
  mw := cs 0
  ipSel := .inc
  mpcSel := .increment
  ir := none
  imem := []
  tick := 0
  status := .running
  decOperand := 0
  decEntry := 0

/-- The model's faults. Every condition a tick can raise has a state the spec describes (R270, R280), so it is a NEXT state with
a terminal `status` and no fault; one case is left without an effect (log 14). -/
inductive Fault where
  /-- `DECODE` fired while `IR` is empty. Raised by `Machine.tick` alone. The spec says `IR` is empty before the first fetch
  (R36) and gives `DECODE` an effect on an instruction only (R155); no run reaches it, since micro-word 0 loads `IR` before
  micro-word 1 reads it. Safe: the model stops where the spec says nothing. -/
  | decodeWithoutInstruction
  deriving DecidableEq, Repr

/-- The model's refusals. -/
inductive Refusal where
  /-- An instruction without a meaning in this model, by its mnemonic: raised by no arm of `exec`, since all 73 forms are
  modelled. Safe: it would only stop a run. -/
  | notModelled (mnemonic : String)
  deriving DecidableEq, Repr

/-- What one step answers. -/
abbrev Result := Host.Outcome State Fault Refusal

end Sys2Proof.Machine
end

