-- ==== Sys2Proof/Machine/Flags.lean ====
section
/-! DEFINITION. The ALU: its seven operations and the zero flag (40_alu_lines_tick.md R120 to R126). -/

namespace Sys2Proof.Machine

/-- `floor_div(a, b)` of 00_scope.md R13: the quotient rounded toward minus infinity. -/
def floorDiv (a b : Int) : Int := a.fdiv b

/-- `floor_mod(a, b) = a - b * floor_div(a, b)` of R13. -/
def floorMod (a b : Int) : Int := a - b * floorDiv a b

/-- The exact result `r` of R120, over mathematical integers; none where the ALU raises ArithmeticError (R125).
`div` is the floor quotient and `idiv` the remainder (R123); `inc` and `dec` ignore the second operand (R122). -/
def aluExact (op : AluOp) (a b : Int) : Option Int :=
  match op with
  | .add => some (a + b)
  | .sub => some (a - b)
  | .mul => some (a * b)
  | .inc => some (a + 1)
  | .dec => some (a - 1)
  | .div => if b = 0 then none else some (floorDiv a b)
  | .idiv => if b = 0 then none else some (floorMod a b)

/-- The ALU's result: `wrap16` of the exact one (R120). -/
def alu (op : AluOp) (a b : Word) : Option Word := (aluExact op a.toInt b.toInt).map wrap16

/-- The zero flag of a result, taken after wrapping (R120, R126). -/
def zeroFlag (r : Word) : Bool := r == 0#16

end Sys2Proof.Machine
end

