-- ==== Sys2Proof/Machine/Operands.lean ====
section
/-! DEFINITION. Where operands come from: registers, the selector muxes, the operand bus and the two addressing modes
(10_state.md R21, R22, R34; 40_alu_lines_tick.md R141, R142, R147; 42_data_transfer.md R208). -/

namespace Sys2Proof.Machine

/-- `x[r]`: read a general register (00_scope.md R13). -/
def State.reg (s : State) : Reg → Word
  | .r1 => s.r1
  | .r2 => s.r2
  | .r3 => s.r3

/-- The register a value of `SEL_MUX2` selects (R135). -/
def Mux2Sel.reg : Mux2Sel → Reg
  | .r1 => .r1
  | .r2 => .r2
  | .r3 => .r3

/-- The value of `SEL_MUX2` that selects a register. -/
def mux2For : Reg → Mux2Sel
  | .r1 => .r1
  | .r2 => .r2
  | .r3 => .r3

/-- The register a value of `SEL_OP1` selects (R147). -/
def Op1Sel.reg : Op1Sel → Reg
  | .r1 => .r1
  | .r2 => .r2
  | .r3 => .r3

/-- The register a value of `LATCH_REG` selects (R148). -/
def LatchSel.reg : LatchSel → Reg
  | .r1 => .r1
  | .r2 => .r2
  | .r3 => .r3

/-- The value `SEL_OP2` copies: a register, or `OR` (R147). -/
def State.op2Source (s : State) : Op2Sel → Word
  | .r1 => s.r1
  | .r2 => s.r2
  | .r3 => s.r3
  | .or => s.orReg

/-- `Mux2() = x[mux2_sel]` (R141). -/
def State.mux2 (s : State) : Word := s.reg s.mux2Sel.reg

/-- `Mux3()`: the operand bus or mux2 (R142). -/
def State.mux3 (s : State) : Word :=
  match s.mux3Sel with
  | .operand => s.decOperand
  | .mux2 => s.mux2

/-- The two addressing modes for data memory (R208): a number argument, or the register named in parentheses. -/
inductive AddrMode where
  | direct (n : Word)
  | indirect (r : Reg)
  deriving DecidableEq, Repr

/-- The effective address of an access (R208), before its range check. -/
def State.effectiveAddress (s : State) : AddrMode → Word
  | .direct n => n
  | .indirect r => s.reg r

end Sys2Proof.Machine
end

