-- ==== Sys2Proof/Machine/Ops.lean ====
section
/-! DEFINITION. The named operations over registers, memories and devices, raising a condition, and the parts every
instruction shares: dispatch, moving to the routine's next micro-word, retiring (20_memory.md, 45_io.md, 60_exceptions.md,
42_data_transfer.md R210). -/

namespace Sys2Proof.Machine

/-! ## Registers -/

/-- `x[r] <- v`; the other two registers are unchanged (00_scope.md R13, 10_state.md R22). -/
def State.setReg (s : State) (r : Reg) (v : Word) : State :=
  match r with
  | .r1 => { s with r1 := v }
  | .r2 => { s with r2 := v }
  | .r3 => { s with r3 := v }

/-! ## Data memory as data: (address, word) pairs in one canonical form (log 5, 6) -/

/-- The word at address `a`: the listed one, else what an unlisted word reads as (10_state.md R46, 20_memory.md R68). -/
def Memory.read : List (Nat × Word) → Nat → Word
  | [], _ => Config.unlistedWord
  | (k, v) :: t, a => if a = k then v else Memory.read t a

/-- Write the word at address `a`, keeping the canonical form: a word that reads as an unlisted one is not listed. -/
def Memory.write : List (Nat × Word) → Nat → Word → List (Nat × Word)
  | [], a, v => if v = Config.unlistedWord then [] else [(a, v)]
  | (k, w) :: t, a, v =>
    if a < k then (if v = Config.unlistedWord then (k, w) :: t else (a, v) :: (k, w) :: t)
    else if a = k then (if v = Config.unlistedWord then t else (a, v) :: t)
    else (k, w) :: Memory.write t a v

/-- Every address of the list is at least `lo`, strictly rising, below 1024, and no entry reads as an unlisted word. -/
def Memory.wfFrom : Nat → List (Nat × Word) → Bool
  | _, [] => true
  | lo, (k, v) :: t =>
    decide (lo ≤ k) && decide (k < Config.memWords) && decide (v ≠ Config.unlistedWord) && Memory.wfFrom (k + 1) t

/-- The canonical form of data memory. -/
def Memory.wf (m : List (Nat × Word)) : Bool := Memory.wfFrom 0 m

/-- The memory of a data image loaded from address `k` on (R68). -/
def Memory.image : Nat → List Int → List (Nat × Word)
  | _, [] => []
  | k, v :: t =>
    if wrap16 v = Config.unlistedWord then Memory.image (k + 1) t else (k, wrap16 v) :: Memory.image (k + 1) t

/-! ## The access primitives -/

/-- The range check of R63 and R64, on the signed value of the address. -/
def addressInRange (a : Word) : Bool := decide (0 ≤ a.toInt) && decide (a.toInt < (Config.memWords : Int))

/-- `MemRead(a, 1)`; none where it raises MemoryBoundsError (R63). -/
def memRead (m : List (Nat × Word)) (a : Word) : Option Word :=
  if addressInRange a then some (Memory.read m a.toNat) else none

/-- `MemWrite(a, 1, v)`; none where it raises MemoryBoundsError, and then nothing is written (R64). -/
def memWrite (m : List (Nat × Word)) (a v : Word) : Option (List (Nat × Word)) :=
  if addressInRange a then some (Memory.write m a.toNat v) else none

/-- `IMemRead(a)`; none where it raises InstructionBoundsError: `a` negative or not below `IMEM_WORDS` (R66). -/
def imemRead (imem : List Item) (a : Word) : Option Item :=
  if 0 ≤ a.toInt then imem[a.toNat]? else none

/-! ## Raising a condition (60_exceptions.md) -/

/-- The nine conditions of R270: two clean stops and the fatal errors. -/
inductive Condition where
  | programHalted
  | inputExhausted
  | fatal (kind : ErrorKind)
  deriving DecidableEq, Repr

/-- The terminal status of a condition (R270). -/
def Condition.status : Condition → Status
  | .programHalted => .halted
  | .inputExhausted => .inputExhausted
  | .fatal kind => .error kind

/-- The code of a terminal status (R270), 0 for Running (70_reset_and_hazards.md R307). -/
def Status.code : Status → Nat
  | .running => 0
  | .halted => 1
  | .inputExhausted => 2
  | .error (.decodeError _) => 3
  | .error (.arithmeticError _ _) => 4
  | .error (.outOfRangeInput _) => 5
  | .error (.memoryBoundsError _) => 6
  | .error (.instructionBoundsError _) => 7
  | .error (.outOfRangeOutput _) => 8
  | .error (.controlStoreBoundsError _) => 9

/-- Raise a condition (R280): `status` takes its terminal value and nothing else changes. What lines of the tick did before the
raising one stands in `s`; nothing is saved, no handler is entered, and there is no return (R282). -/
def State.raise (s : State) (c : Condition) : State := { s with status := c.status }

/-! ## The devices (45_io.md) -/

/-- `InHead()`: the peek; the emptiness test comes before the range test (R262). -/
def inHead (q : List Nat) : Except Condition Word :=
  match q with
  | [] => .error .inputExhausted
  | c :: _ =>
    if (c : Int) < Config.minInputCode ∨ Config.maxInputCode < (c : Int) then .error (.fatal (.outOfRangeInput c))
    else .ok (wrap16 c)

/-- `InPop()`: the advance (R263; on an empty queue 93_implementation_defined.md U6). -/
def inPop (q : List Nat) : Except Condition (List Nat) :=
  match q with
  | [] => .error .inputExhausted
  | _ :: t => .ok t

/-- `OutAppend(v)` (R264): a negative value raises, any other is the code of the character appended. -/
def outAppend (out : List Nat) (v : Word) : Except Condition (List Nat) :=
  if v.toInt < 0 then .error (.fatal (.outOfRangeOutput v)) else .ok (out ++ [v.toNat])

/-! ## The ALU's operation line (R149) -/

/-- `(res, Z) <- ALU(op, op1, op2)`, or ArithmeticError with the dividend (R125, R149). -/
def State.operate (s : State) (op : AluOp) : Except Condition State :=
  match alu op s.op1 s.op2 with
  | some r => .ok { s with res := r, z := zeroFlag r }
  | none => .error (.fatal (.arithmeticError op s.op1))

/-! ## The ticks every instruction shares (42_data_transfer.md R210) -/

/-- Step 5 of the tick: latch the next micro-address, read its micro-word, count the tick (40_alu_lines_tick.md R160). -/
def State.goTo (s : State) (a : MicroAddr) : State := { s with mpc := a, mw := cs a, tick := s.tick + 1 }

/-- The completed tick of micro-word 0: `IR` holds the fetched instruction (41_control_store.md R188). -/
def State.fetched (s : State) (item : Item) : State := { s with ir := some item, mpcSel := .increment }.goTo 1

/-- The operand extraction of `DECODE`: the held operand is replaced when there is a number argument (R89, R156). -/
def State.takeOperand (s : State) (n : Option Word) : State := { s with decOperand := n.getD s.decOperand }

/-- The completed tick of micro-word 1: the operand is extracted, the entry address resolved, `OR` latched (R156 to R158,
41_control_store.md R189). -/
def State.dispatch (s : State) (n : Option Word) (entry : MicroAddr) : State :=
  { s.takeOperand n with decEntry := entry, orReg := n.getD s.decOperand, mpcSel := .next }.goTo entry

/-- The end of a tick that selects INCREMENT: on to the routine's next micro-word (R164). -/
def State.nextWord (s : State) : State := { s with mpcSel := .increment }.goTo (s.mpc + 1)

/-- The selections of the last micro-word of a routine that does not branch: `SEL_IP=INC, SEL_MPC=NULL` (R191, `END`). -/
def State.selectEnd (s : State) : State := { s with ipSel := .inc, mpcSel := .null }

/-- The value `LATCH_IP` gives `pc`: the next instruction's address, or `OR` (R151). -/
def State.nextPc (s : State) : IpSel → Word
  | .inc => wrap16 (s.pc.toInt + 1)
  | .operand => s.orReg

/-- The end of an instruction: `pc` is written and the control unit returns to micro-address 0 (R164, R191). -/
def State.retire (s : State) (ip : IpSel) : State :=
  { s with ipSel := ip, mpcSel := .null, pc := s.nextPc ip }.goTo 0

end Sys2Proof.Machine
end

