-- ==== Sys2Proof/Machine/Arithmetic.lean ====
section
/-! DEFINITION. The arithmetic and compare instructions ADD, SUB, IDIV, DIV, MUL, INC, DEC, CMP (43_arithmetic.md). -/

namespace Sys2Proof.Machine

/-- The shape of R220: the first micro-word loads the operand latches and fires the operation, which sets `res` and `Z` or
raises; the second writes the result to `Rd`. -/
def arith (op : AluOp) (d : Reg) (entry : MicroAddr) (a b : Word) (s : State) : Result :=
  match { s.dispatch none entry with mpcSel := .increment, op1 := a, op2 := b }.operate op with
  | .ok t => .next (({ t.nextWord with mux1Sel := .alu }.setReg d t.res).retire .inc)
  | .error c => .next ({ s.dispatch none entry with mpcSel := .increment, op1 := a, op2 := b }.raise c)

/-- `ADD Rd` (R222): the sources are the other two registers, the lower-numbered one first (decision D12, log 15). -/
def addRegs (d a b : Reg) (entry : MicroAddr) (s : State) : Result := arith .add d entry (s.reg a) (s.reg b) s

/-- `OP Ra,Rb` (R223 to R226): `Ra` is the first operand and the destination (decision D11, log 15). -/
def arithRegs (op : AluOp) (a b : Reg) (entry : MicroAddr) (s : State) : Result := arith op a entry (s.reg a) (s.reg b) s

/-- `INC Rd`, `DEC Rd` (R227, R228): `op2` is not loaded and keeps what it held. -/
def arithOne (op : AluOp) (d : Reg) (entry : MicroAddr) (s : State) : Result := arith op d entry (s.reg d) s.op2 s

/-- The one micro-word of a CMP (R229, R230): the subtraction sets `res` and `Z`, no register is written. `s` is the state after
dispatch. -/
def compareFinish (a b : Word) (s : State) : Result :=
  match { s.selectEnd with op1 := a, op2 := b }.operate .sub with
  | .ok t => .next (t.retire .inc)
  | .error c => .next ({ s.selectEnd with op1 := a, op2 := b }.raise c)

/-- `CMP Ra,Rb` (R229). -/
def cmpRegs (a b : Reg) (entry : MicroAddr) (s : State) : Result :=
  compareFinish (s.reg a) (s.reg b) (s.dispatch none entry)

/-- `CMP Rd,#n` (R230). -/
def cmpImm (a : Reg) (entry : MicroAddr) (n : Word) (s : State) : Result :=
  compareFinish (s.reg a) n (s.dispatch (some n) entry)

/-! ## The meanings, one for each form -/

/-- `ADD R1` (R222). -/
def execAddR1 (s : State) : Result := addRegs .r1 .r2 .r3 53 s

/-- `ADD R2` (R222). -/
def execAddR2 (s : State) : Result := addRegs .r2 .r1 .r3 55 s

/-- `ADD R3` (R222). -/
def execAddR3 (s : State) : Result := addRegs .r3 .r1 .r2 57 s

/-- `SUB R1,R2` (R223). -/
def execSubR1R2 (s : State) : Result := arithRegs .sub .r1 .r2 59 s

/-- `SUB R2,R1` (R223). -/
def execSubR2R1 (s : State) : Result := arithRegs .sub .r2 .r1 61 s

/-- `SUB R3,R1` (R223). -/
def execSubR3R1 (s : State) : Result := arithRegs .sub .r3 .r1 63 s

/-- `SUB R1,R3` (R223). -/
def execSubR1R3 (s : State) : Result := arithRegs .sub .r1 .r3 103 s

/-- `SUB R2,R3` (R223). -/
def execSubR2R3 (s : State) : Result := arithRegs .sub .r2 .r3 105 s

/-- `SUB R3,R2` (R223). -/
def execSubR3R2 (s : State) : Result := arithRegs .sub .r3 .r2 107 s

/-- `IDIV R1,R2` (R224). -/
def execIdivR1R2 (s : State) : Result := arithRegs .idiv .r1 .r2 65 s

/-- `IDIV R2,R1` (R224). -/
def execIdivR2R1 (s : State) : Result := arithRegs .idiv .r2 .r1 67 s

/-- `IDIV R3,R1` (R224). -/
def execIdivR3R1 (s : State) : Result := arithRegs .idiv .r3 .r1 69 s

/-- `IDIV R1,R3` (R224). -/
def execIdivR1R3 (s : State) : Result := arithRegs .idiv .r1 .r3 109 s

/-- `IDIV R2,R3` (R224). -/
def execIdivR2R3 (s : State) : Result := arithRegs .idiv .r2 .r3 111 s

/-- `IDIV R3,R2` (R224). -/
def execIdivR3R2 (s : State) : Result := arithRegs .idiv .r3 .r2 113 s

/-- `DIV R1,R2` (R225). -/
def execDivR1R2 (s : State) : Result := arithRegs .div .r1 .r2 71 s

/-- `DIV R2,R1` (R225). -/
def execDivR2R1 (s : State) : Result := arithRegs .div .r2 .r1 73 s

/-- `DIV R3,R1` (R225). -/
def execDivR3R1 (s : State) : Result := arithRegs .div .r3 .r1 75 s

/-- `DIV R1,R3` (R225). -/
def execDivR1R3 (s : State) : Result := arithRegs .div .r1 .r3 97 s

/-- `DIV R2,R3` (R225). -/
def execDivR2R3 (s : State) : Result := arithRegs .div .r2 .r3 99 s

/-- `DIV R3,R2` (R225). -/
def execDivR3R2 (s : State) : Result := arithRegs .div .r3 .r2 101 s

/-- `MUL R1,R2` (R226). -/
def execMulR1R2 (s : State) : Result := arithRegs .mul .r1 .r2 115 s

/-- `MUL R2,R1` (R226). -/
def execMulR2R1 (s : State) : Result := arithRegs .mul .r2 .r1 117 s

/-- `MUL R3,R1` (R226). -/
def execMulR3R1 (s : State) : Result := arithRegs .mul .r3 .r1 119 s

/-- `INC R1` (R227). -/
def execIncR1 (s : State) : Result := arithOne .inc .r1 77 s

/-- `INC R2` (R227). -/
def execIncR2 (s : State) : Result := arithOne .inc .r2 79 s

/-- `INC R3` (R227). -/
def execIncR3 (s : State) : Result := arithOne .inc .r3 81 s

/-- `DEC R1` (R228). -/
def execDecR1 (s : State) : Result := arithOne .dec .r1 121 s

/-- `DEC R2` (R228). -/
def execDecR2 (s : State) : Result := arithOne .dec .r2 123 s

/-- `DEC R3` (R228). -/
def execDecR3 (s : State) : Result := arithOne .dec .r3 125 s

/-- `CMP R1,#` (R230). -/
def execCmpR1 (n : Word) (s : State) : Result := cmpImm .r1 94 n s

/-- `CMP R2,#` (R230). -/
def execCmpR2 (n : Word) (s : State) : Result := cmpImm .r2 95 n s

/-- `CMP R3,#` (R230). -/
def execCmpR3 (n : Word) (s : State) : Result := cmpImm .r3 96 n s

/-- `CMP R1,R2` (R229). -/
def execCmpR1R2 (s : State) : Result := cmpRegs .r1 .r2 83 s

/-- `CMP R2,R3` (R229). -/
def execCmpR2R3 (s : State) : Result := cmpRegs .r2 .r3 84 s

/-- `CMP R1,R3` (R229). -/
def execCmpR1R3 (s : State) : Result := cmpRegs .r1 .r3 85 s

end Sys2Proof.Machine
end

