-- ==== Sys2Proof/Machine/Control.lean ====
section
/-! DEFINITION. The control-transfer instructions JMP, JZ, JNZ and HALT (44_control_transfer.md). -/

namespace Sys2Proof.Machine

/-- A branch to `t`: the decoder dispatches to micro-word 86, which loads `pc` from `OR`, or to 93, which adds 1 (R101, R250). -/
def branch (taken : Bool) (t : Word) (s : State) : Result :=
  if taken then .next ((s.dispatch (some t) 86).retire .operand) else .next ((s.dispatch (some t) 93).retire .inc)

/-! ## The meanings, one for each form -/

/-- `JMP #` (R252). -/
def execJmp (n : Word) (s : State) : Result := branch true n s

/-- `JZ #` (R253): taken when the zero flag is set as `DECODE` fires (R101). -/
def execJz (n : Word) (s : State) : Result := branch s.z n s

/-- `JNZ #` (R254): taken when the zero flag is clear as `DECODE` fires (R101). -/
def execJnz (n : Word) (s : State) : Result := branch (!s.z) n s

/-- `HALT` (R256): `DECODE` raises ProgramHalted; nothing else changes. -/
def execHalt (s : State) : Result := .next (s.raise .programHalted)

end Sys2Proof.Machine
end

