-- ==== Sys2Proof/Machine/InOut.lean ====
section
/-! DEFINITION. The input and output instructions OUT and IN (45_io.md). -/

namespace Sys2Proof.Machine

/-- `OUT Rd` (R265): append the character, or raise OutOfRangeOutput with `out` and `pc` unchanged. -/
def outReg (d : Reg) (entry : MicroAddr) (s : State) : Result :=
  let s := { (s.dispatch none entry).selectEnd with mux2Sel := mux2For d }
  match outAppend s.out (s.reg d) with
  | .ok o => .next ({ s with out := o }.retire .inc)
  | .error c => .next (s.raise c)

/-- `IN Rd` (R266): peek, latch, then advance; a failed peek changes neither the register nor the queue nor `pc`. -/
def inReg (d : Reg) (entry : MicroAddr) (s : State) : Result :=
  let s := { (s.dispatch none entry).selectEnd with mux1Sel := .input }
  match inHead s.inQ with
  | .error c => .next (s.raise c)
  | .ok v =>
    match inPop s.inQ with
    | .ok q => .next ({ s.setReg d v with inQ := q }.retire .inc)
    | .error c => .next ((s.setReg d v).raise c)

/-! ## The meanings, one for each form -/

/-- `OUT R1` (R265). -/
def execOutR1 (s : State) : Result := outReg .r1 87 s

/-- `OUT R2` (R265). -/
def execOutR2 (s : State) : Result := outReg .r2 88 s

/-- `OUT R3` (R265). -/
def execOutR3 (s : State) : Result := outReg .r3 89 s

/-- `IN R1` (R266). -/
def execInR1 (s : State) : Result := inReg .r1 90 s

/-- `IN R2` (R266). -/
def execInR2 (s : State) : Result := inReg .r2 91 s

/-- `IN R3` (R266). -/
def execInR3 (s : State) : Result := inReg .r3 92 s

end Sys2Proof.Machine
end

