-- ==== Sys2Proof/Machine/Transfer.lean ====
section
/-! DEFINITION. The data-transfer instructions MOV, LOAD, STORE (42_data_transfer.md). A meaning starts where the fetch tick
has loaded `IR` (micro-address 1) and ends where the instruction ends (log 1). -/

namespace Sys2Proof.Machine

/-- `MOV Rd,#n` (R200), entered at `entry`. -/
def movImm (d : Reg) (entry : MicroAddr) (n : Word) (s : State) : Result :=
  .next (({ s.dispatch (some n) entry with mux1Sel := .or }.setReg d n).retire .inc)

/-- `MOV Rd,Rs` (R201), entered at `entry`. -/
def movReg (d r : Reg) (entry : MicroAddr) (s : State) : Result :=
  .next (({ s.dispatch none entry with mux2Sel := mux2For r, mux1Sel := .mux2 }.setReg d (s.reg r)).retire .inc)

/-- The read of a LOAD and its last micro-word: the word `AR` addresses goes through `MO` and `DR` into `Rd`; out of range
MemoryBoundsError is raised before any of them changes (R203, R204). -/
def loadFinish (d : Reg) (s : State) : Result :=
  match memRead s.mem s.ar with
  | some v => .next (({ ({ s with mo := v, dr := v }.nextWord) with mux1Sel := .dr }.setReg d v).retire .inc)
  | none => .next (s.raise (.fatal (.memoryBoundsError s.ar)))

/-- `LOAD Rd,#n` (R203): address and read in one micro-word. -/
def loadDirect (d : Reg) (entry : MicroAddr) (n : Word) (s : State) : Result :=
  loadFinish d { s.dispatch (some n) entry with
    mux3Sel := .operand, mpcSel := .increment, ar := s.effectiveAddress (.direct n) }

/-- `LOAD Rd,(Rs)` (R204): the address in one micro-word, the read in the next. -/
def loadIndirect (d b : Reg) (entry : MicroAddr) (s : State) : Result :=
  loadFinish d ({ s.dispatch none entry with
    mux2Sel := mux2For b, mux3Sel := .mux2, ar := s.effectiveAddress (.indirect b) }.nextWord)

/-- The last micro-word of a STORE: the register goes to the word `AR` addresses; out of range MemoryBoundsError is raised and
nothing is written (R206, R207). -/
def storeFinish (r : Reg) (s : State) : Result :=
  let s := { s.selectEnd with mux2Sel := mux2For r }
  match memWrite s.mem s.ar (s.reg r) with
  | some m => .next ({ s with mem := m }.retire .inc)
  | none => .next (s.raise (.fatal (.memoryBoundsError s.ar)))

/-- `STORE Rs,#n` (R206). -/
def storeDirect (r : Reg) (entry : MicroAddr) (n : Word) (s : State) : Result :=
  storeFinish r ({ s.dispatch (some n) entry with
    mux2Sel := mux2For r, mux3Sel := .operand, ar := s.effectiveAddress (.direct n) }.nextWord)

/-- `STORE Rs,(Rd)` (R207). -/
def storeIndirect (r b : Reg) (entry : MicroAddr) (s : State) : Result :=
  storeFinish r ({ s.dispatch none entry with
    mux2Sel := mux2For b, mux3Sel := .mux2, ar := s.effectiveAddress (.indirect b) }.nextWord)

/-! ## The meanings, one for each form -/

/-- `MOV R1,#` (R200). -/
def execMovR1 (n : Word) (s : State) : Result := movImm .r1 2 n s

/-- `MOV R2,#` (R200). -/
def execMovR2 (n : Word) (s : State) : Result := movImm .r2 3 n s

/-- `MOV R3,#` (R200). -/
def execMovR3 (n : Word) (s : State) : Result := movImm .r3 4 n s

/-- `MOV R1,R2` (R201). -/
def execMovR1R2 (s : State) : Result := movReg .r1 .r2 5 s

/-- `MOV R2,R1` (R201). -/
def execMovR2R1 (s : State) : Result := movReg .r2 .r1 6 s

/-- `MOV R2,R3` (R201). -/
def execMovR2R3 (s : State) : Result := movReg .r2 .r3 7 s

/-- `MOV R3,R2` (R201). -/
def execMovR3R2 (s : State) : Result := movReg .r3 .r2 8 s

/-- `MOV R1,R3` (R201). -/
def execMovR1R3 (s : State) : Result := movReg .r1 .r3 9 s

/-- `MOV R3,R1` (R201). -/
def execMovR3R1 (s : State) : Result := movReg .r3 .r1 10 s

/-- `LOAD R1,#` (R203). -/
def execLoadR1 (n : Word) (s : State) : Result := loadDirect .r1 11 n s

/-- `LOAD R2,#` (R203). -/
def execLoadR2 (n : Word) (s : State) : Result := loadDirect .r2 13 n s

/-- `LOAD R3,#` (R203). -/
def execLoadR3 (n : Word) (s : State) : Result := loadDirect .r3 15 n s

/-- `LOAD R1,(R2)` (R204). -/
def execLoadR1AtR2 (s : State) : Result := loadIndirect .r1 .r2 23 s

/-- `LOAD R1,(R3)` (R204). -/
def execLoadR1AtR3 (s : State) : Result := loadIndirect .r1 .r3 26 s

/-- `LOAD R2,(R1)` (R204). -/
def execLoadR2AtR1 (s : State) : Result := loadIndirect .r2 .r1 29 s

/-- `LOAD R2,(R3)` (R204). -/
def execLoadR2AtR3 (s : State) : Result := loadIndirect .r2 .r3 32 s

/-- `LOAD R3,(R1)` (R204). -/
def execLoadR3AtR1 (s : State) : Result := loadIndirect .r3 .r1 35 s

/-- `LOAD R3,(R2)` (R204). -/
def execLoadR3AtR2 (s : State) : Result := loadIndirect .r3 .r2 38 s

/-- `STORE R1,#` (R206). -/
def execStoreR1 (n : Word) (s : State) : Result := storeDirect .r1 17 n s

/-- `STORE R2,#` (R206). -/
def execStoreR2 (n : Word) (s : State) : Result := storeDirect .r2 19 n s

/-- `STORE R3,#` (R206). -/
def execStoreR3 (n : Word) (s : State) : Result := storeDirect .r3 21 n s

/-- `STORE R1,(R2)` (R207). -/
def execStoreR1AtR2 (s : State) : Result := storeIndirect .r1 .r2 41 s

/-- `STORE R1,(R3)` (R207). -/
def execStoreR1AtR3 (s : State) : Result := storeIndirect .r1 .r3 43 s

/-- `STORE R2,(R1)` (R207). -/
def execStoreR2AtR1 (s : State) : Result := storeIndirect .r2 .r1 45 s

/-- `STORE R2,(R3)` (R207). -/
def execStoreR2AtR3 (s : State) : Result := storeIndirect .r2 .r3 47 s

/-- `STORE R3,(R1)` (R207). -/
def execStoreR3AtR1 (s : State) : Result := storeIndirect .r3 .r1 49 s

/-- `STORE R3,(R2)` (R207). -/
def execStoreR3AtR2 (s : State) : Result := storeIndirect .r3 .r2 51 s

end Sys2Proof.Machine
end

