-- ==== Sys2Proof/Machine/Dispatch.lean ====
section
/-! DEFINITION. The meaning of every instruction, arm by arm, in the order of opcode_table.json. -/

namespace Sys2Proof.Machine

def exec (i : Instr) (s : State) : Host.Outcome State Fault Refusal :=
  match i with
  | .movR1 n => Sys2Proof.Machine.execMovR1 n s
  | .movR2 n => Sys2Proof.Machine.execMovR2 n s
  | .movR3 n => Sys2Proof.Machine.execMovR3 n s
  | .movR1R2 => Sys2Proof.Machine.execMovR1R2 s
  | .movR2R1 => Sys2Proof.Machine.execMovR2R1 s
  | .movR2R3 => Sys2Proof.Machine.execMovR2R3 s
  | .movR3R2 => Sys2Proof.Machine.execMovR3R2 s
  | .movR1R3 => Sys2Proof.Machine.execMovR1R3 s
  | .movR3R1 => Sys2Proof.Machine.execMovR3R1 s
  | .loadR1 n => Sys2Proof.Machine.execLoadR1 n s
  | .loadR2 n => Sys2Proof.Machine.execLoadR2 n s
  | .loadR3 n => Sys2Proof.Machine.execLoadR3 n s
  | .loadR1AtR2 => Sys2Proof.Machine.execLoadR1AtR2 s
  | .loadR1AtR3 => Sys2Proof.Machine.execLoadR1AtR3 s
  | .loadR2AtR1 => Sys2Proof.Machine.execLoadR2AtR1 s
  | .loadR2AtR3 => Sys2Proof.Machine.execLoadR2AtR3 s
  | .loadR3AtR1 => Sys2Proof.Machine.execLoadR3AtR1 s
  | .loadR3AtR2 => Sys2Proof.Machine.execLoadR3AtR2 s
  | .storeR1 n => Sys2Proof.Machine.execStoreR1 n s
  | .storeR2 n => Sys2Proof.Machine.execStoreR2 n s
  | .storeR3 n => Sys2Proof.Machine.execStoreR3 n s
  | .storeR1AtR2 => Sys2Proof.Machine.execStoreR1AtR2 s
  | .storeR1AtR3 => Sys2Proof.Machine.execStoreR1AtR3 s
  | .storeR2AtR1 => Sys2Proof.Machine.execStoreR2AtR1 s
  | .storeR2AtR3 => Sys2Proof.Machine.execStoreR2AtR3 s
  | .storeR3AtR1 => Sys2Proof.Machine.execStoreR3AtR1 s
  | .storeR3AtR2 => Sys2Proof.Machine.execStoreR3AtR2 s
  | .addR1 => Sys2Proof.Machine.execAddR1 s
  | .addR2 => Sys2Proof.Machine.execAddR2 s
  | .addR3 => Sys2Proof.Machine.execAddR3 s
  | .subR1R2 => Sys2Proof.Machine.execSubR1R2 s
  | .subR2R1 => Sys2Proof.Machine.execSubR2R1 s
  | .subR3R1 => Sys2Proof.Machine.execSubR3R1 s
  | .subR1R3 => Sys2Proof.Machine.execSubR1R3 s
  | .subR2R3 => Sys2Proof.Machine.execSubR2R3 s
  | .subR3R2 => Sys2Proof.Machine.execSubR3R2 s
  | .idivR1R2 => Sys2Proof.Machine.execIdivR1R2 s
  | .idivR2R1 => Sys2Proof.Machine.execIdivR2R1 s
  | .idivR3R1 => Sys2Proof.Machine.execIdivR3R1 s
  | .idivR1R3 => Sys2Proof.Machine.execIdivR1R3 s
  | .idivR2R3 => Sys2Proof.Machine.execIdivR2R3 s
  | .idivR3R2 => Sys2Proof.Machine.execIdivR3R2 s
  | .divR1R2 => Sys2Proof.Machine.execDivR1R2 s
  | .divR2R1 => Sys2Proof.Machine.execDivR2R1 s
  | .divR3R1 => Sys2Proof.Machine.execDivR3R1 s
  | .divR1R3 => Sys2Proof.Machine.execDivR1R3 s
  | .divR2R3 => Sys2Proof.Machine.execDivR2R3 s
  | .divR3R2 => Sys2Proof.Machine.execDivR3R2 s
  | .mulR1R2 => Sys2Proof.Machine.execMulR1R2 s
  | .mulR2R1 => Sys2Proof.Machine.execMulR2R1 s
  | .mulR3R1 => Sys2Proof.Machine.execMulR3R1 s
  | .incR1 => Sys2Proof.Machine.execIncR1 s
  | .incR2 => Sys2Proof.Machine.execIncR2 s
  | .incR3 => Sys2Proof.Machine.execIncR3 s
  | .decR1 => Sys2Proof.Machine.execDecR1 s
  | .decR2 => Sys2Proof.Machine.execDecR2 s
  | .decR3 => Sys2Proof.Machine.execDecR3 s
  | .cmpR1 n => Sys2Proof.Machine.execCmpR1 n s
  | .cmpR2 n => Sys2Proof.Machine.execCmpR2 n s
  | .cmpR3 n => Sys2Proof.Machine.execCmpR3 n s
  | .cmpR1R2 => Sys2Proof.Machine.execCmpR1R2 s
  | .cmpR2R3 => Sys2Proof.Machine.execCmpR2R3 s
  | .cmpR1R3 => Sys2Proof.Machine.execCmpR1R3 s
  | .jmp n => Sys2Proof.Machine.execJmp n s
  | .jz n => Sys2Proof.Machine.execJz n s
  | .jnz n => Sys2Proof.Machine.execJnz n s
  | .outR1 => Sys2Proof.Machine.execOutR1 s
  | .outR2 => Sys2Proof.Machine.execOutR2 s
  | .outR3 => Sys2Proof.Machine.execOutR3 s
  | .inR1 => Sys2Proof.Machine.execInR1 s
  | .inR2 => Sys2Proof.Machine.execInR2 s
  | .inR3 => Sys2Proof.Machine.execInR3 s
  | .halt => Sys2Proof.Machine.execHalt s

end Sys2Proof.Machine
end

