-- ==== Sys2Proof/Machine/Tick.lean ====
section
/-! DEFINITION. The normative micro level (00_scope.md R10): what each control line does (40_alu_lines_tick.md R132 to R158), the
firing order (R161) and the tick (R160 to R163). -/

namespace Sys2Proof.Machine

/-! ## Effects of single lines -/

/-- Take the answer of an operation that may raise: its value, or the state with the condition's terminal status (R163). -/
def State.orRaise {α : Type} (s : State) (r : Except Condition α) (k : α → State) : State :=
  match r with
  | .ok v => k v
  | .error c => s.raise c

/-- `FETCH` (R132). -/
def fireFetch (s : State) : State :=
  match imemRead s.imem s.pc with
  | some item => { s with ir := some item }
  | none => s.raise (.fatal (.instructionBoundsError s.pc))

/-- Resolution (R157): an entry micro-address, ProgramHalted, or DecodeError. -/
def resolve (item : Item) (z : Bool) : Except Condition MicroAddr :=
  match decodeItem item with
  | .error _ => .error (.fatal (.decodeError item))
  | .ok i =>
    match i.entry z with
    | some a => .ok a
    | none => .error .programHalted

/-- `DECODE` on the instruction in `IR`: extract the operand, then resolve (R155 to R158). An empty `IR` never gets here
(`Fault.decodeWithoutInstruction`). -/
def fireDecode (s : State) : State :=
  match s.ir with
  | some item =>
    let t := s.takeOperand item.lastNumber
    t.orRaise (resolve item s.z) fun a => { t with decEntry := a }
  | none => s

/-- `LATCH_OR` (R134). -/
def fireLatchOr (s : State) : State := { s with orReg := s.decOperand }

/-- `Mux1()`, computed when a line consumes it (R140). -/
def State.mux1 (s : State) : Except Condition Word :=
  match s.mux1Sel with
  | .alu => .ok s.res
  | .or => .ok s.orReg
  | .dr => .ok s.dr
  | .mux2 => .ok s.mux2
  | .input => inHead s.inQ

/-- `LATCH_AR` (R143). -/
def fireLatchAr (s : State) : State := { s with ar := s.mux3 }

/-- `MEM_READ` (R144). -/
def fireMemRead (s : State) : State :=
  match memRead s.mem s.ar with
  | some v => { s with mo := v }
  | none => s.raise (.fatal (.memoryBoundsError s.ar))

/-- `MEM_WRITE` (R145). -/
def fireMemWrite (s : State) : State :=
  match memWrite s.mem s.ar s.mux2 with
  | some m => { s with mem := m }
  | none => s.raise (.fatal (.memoryBoundsError s.ar))

/-- `LATCH_DR` (R146). -/
def fireLatchDr (s : State) : State := { s with dr := s.mo }

/-- `ALU_OP` (R149). -/
def fireAluOp (op : AluOp) (s : State) : State := s.orRaise (s.operate op) id

/-- `LATCH_REG` (R148). -/
def fireLatchReg (r : LatchSel) (s : State) : State := s.orRaise s.mux1 fun v => s.setReg r.reg v

/-- `OUTPUT` (R150). -/
def fireOutput (s : State) : State := s.orRaise (outAppend s.out s.mux2) fun o => { s with out := o }

/-- `INPUT_ADVANCE` (R152). -/
def fireInputAdvance (s : State) : State := s.orRaise (inPop s.inQ) fun q => { s with inQ := q }

/-- `LATCH_IP` (R151). -/
def fireLatchIp (s : State) : State := { s with pc := s.nextPc s.ipSel }

/-- A strobe line: fires when it is in the micro-word (R180). -/
def strobe (active : Bool) (f : State → State) (s : State) : State := if active then f s else s

/-- A line with a value: fires with the value it carries (R180). -/
def carried {α : Type} (v : Option α) (f : α → State → State) (s : State) : State :=
  match v with
  | some a => f a s
  | none => s

/-- What line `l` does under micro-word `w`; an inactive line changes nothing (R132 to R152). -/
def fireLine (w : MicroWord) (l : Line) (s : State) : State :=
  match l with
  | .fetch => strobe w.fetch fireFetch s
  | .decode => strobe w.decode fireDecode s
  | .latchOr => strobe w.latchOr fireLatchOr s
  | .selMux2 => carried w.selMux2 (fun v s => { s with mux2Sel := v }) s
  | .selMux3 => carried w.selMux3 (fun v s => { s with mux3Sel := v }) s
  | .selMux1 => carried w.selMux1 (fun v s => { s with mux1Sel := v }) s
  | .selIp => carried w.selIp (fun v s => { s with ipSel := v }) s
  | .selMpc => carried w.selMpc (fun v s => { s with mpcSel := v }) s
  | .latchAr => strobe w.latchAr fireLatchAr s
  | .memRead => strobe w.memRead fireMemRead s
  | .memWrite => strobe w.memWrite fireMemWrite s
  | .latchDr => strobe w.latchDr fireLatchDr s
  | .selOp1 => carried w.selOp1 (fun v s => { s with op1 := s.reg v.reg }) s
  | .selOp2 => carried w.selOp2 (fun v s => { s with op2 := s.op2Source v }) s
  | .aluOp => carried w.aluOp fireAluOp s
  | .latchReg => carried w.latchReg fireLatchReg s
  | .output => strobe w.output fireOutput s
  | .inputAdvance => strobe w.inputAdvance fireInputAdvance s
  | .latchIp => strobe w.latchIp fireLatchIp s

/-- The firing order (R161). -/
def firingOrder : List Line :=
  [.fetch, .decode, .latchOr, .selMux2, .selMux3, .selMux1, .selIp, .selMpc, .latchAr, .memRead, .memWrite, .latchDr,
    .selOp1, .selOp2, .aluOp, .latchReg, .output, .inputAdvance, .latchIp]

/-- Fire the lines in order; a line that raised ends the tick, so later lines do nothing (R163). -/
def fireLines (w : MicroWord) : List Line → State → State
  | [], s => s
  | l :: ls, s => if s.status = .running then fireLines w ls (fireLine w l s) else s

/-- Steps 4 and 5 of the tick: the next micro-address by the address-select mux, latched (R160, R162, R279). -/
def latchNext (s : State) : State :=
  match s.mpcSel with
  | .increment =>
    if h : s.mpc.val + 1 < Config.csWords then s.goTo ⟨s.mpc.val + 1, h⟩
    else s.raise (.fatal (.controlStoreBoundsError (s.mpc.val + 1)))
  | .next => s.goTo s.decEntry
  | .null => s.goTo 0

/-- The lines of one tick, from a Running state (R160 steps 1 and 2). -/
def fireWord (s : State) : State := fireLines s.mw firingOrder s

/-- What one tick makes of a Running state (R160, R163). -/
def State.ticked (s : State) : State :=
  let t := fireWord s
  if t.status = .running then latchNext t else t

/-- `DECODE` would fire with nothing in `IR`. -/
def State.decodesNothing (s : State) : Bool := s.mw.decode && !s.mw.fetch && s.ir.isNone

/-- One tick (R160). Once the status is terminal no tick is taken and the state stays as it is (R44, R291; log 2). -/
def tick (s : State) : Result :=
  if s.status = .running then
    if s.decodesNothing then .fault .decodeWithoutInstruction else .next s.ticked
  else .next s

/-- At most `n` ticks, up to the tick that returns to micro-address 0 or turns the status terminal (R164). -/
def ticksToBoundary : Nat → State → Result
  | 0, s => .next s
  | n + 1, s =>
    match tick s with
    | .next t => if t.status = .running ∧ t.mpc ≠ 0 then ticksToBoundary n t else .next t
    | .fault f => .fault f
    | .refused r => .refused r

/-- Exactly `n` ticks. -/
def ticks : Nat → State → Result
  | 0, s => .next s
  | n + 1, s =>
    match tick s with
    | .next t => ticks n t
    | .fault f => .fault f
    | .refused r => .refused r

end Sys2Proof.Machine
end

