-- ==== Sys2Proof/Machine/Fetch.lean ====
section
/-! DEFINITION. The whole instruction: fetch, decode, and `exec` of what was decoded (42_data_transfer.md R210); and where the
host places an instruction for the next step. -/

namespace Sys2Proof.Machine

/-- The control unit stands at the start of an instruction (R164). -/
abbrev State.AtBoundary (s : State) : Prop := s.mpc = 0 ∧ s.mw = cs 0

/-- One whole instruction from micro-address 0 (R210): a `pc` outside the program raises at the fetch tick (R66), a miss raises
at the decode tick after the operand has been extracted (R156, R273), and otherwise the decoded instruction runs. -/
def runInstruction (s : State) : Result :=
  match imemRead s.imem s.pc with
  | none => .next (s.raise (.fatal (.instructionBoundsError s.pc)))
  | some item =>
    match decodeItem item with
    | .error _ => .next (((s.fetched item).takeOperand item.lastNumber).raise (.fatal (.decodeError item)))
    | .ok i => exec i (s.fetched item)

/-- The most ticks from any state of the control unit to the next boundary. -/
abbrev boundaryFuel : Nat := 8

/-- Instruction memory with `item` at location `k`; the locations before it that the program does not have hold the all-zero
word, which does not decode (R88). -/
def placeAt : Nat → Item → List Item → List Item
  | 0, item, [] => [item]
  | 0, item, _ :: t => item :: t
  | k + 1, item, [] => Item.ofWord 0 :: placeAt k item []
  | k + 1, item, x :: t => x :: placeAt k item t

/-- `s` with `item` where the next step fetches (log 3): at `pc`, the control unit at micro-address 0 and Running. A negative `pc`
addresses no location, so it is put to 0. -/
def State.withNextItem (s : State) (item : Item) : State :=
  let a : Word := if 0 ≤ s.pc.toInt then s.pc else 0
  { s with imem := placeAt a.toNat item s.imem, pc := a, mpc := 0, mw := cs 0, status := .running }

end Sys2Proof.Machine
end

