-- ==== Sys2Proof/Machine/Step.lean ====
section
/-! DEFINITION. One step of the machine: a whole instruction from micro-address 0 (log 1). -/

namespace Sys2Proof.Machine

/-- One step. From micro-address 0: one instruction. From the middle of one: the ticks that finish it (40_alu_lines_tick.md R160,
R164). A terminal status takes no tick: the state stays as it is (R44, R282, R291; log 2). -/
def step (s : State) : Host.Outcome State Fault Refusal :=
  if s.status = .running then
    if s.AtBoundary then runInstruction s else ticksToBoundary boundaryFuel s
  else .next s

/-- `s` with the instruction whose bits are `w` stored where `step` fetches its next instruction (log 3). -/
def State.withFetchWord (s : State) (nbits w : Nat) : State := s.withNextItem (Item.ofWord (wordOfBits nbits w))

end Sys2Proof.Machine
end

