-- ==== Sys2Proof/Machine/Launch.lean ====
section
/-! DEFINITION. The launch the host hands over and the state it builds (70_reset_and_hazards.md R300 to R306,
20_memory.md R68, 10_state.md R46). -/

namespace Sys2Proof.Machine

/-- An instruction of `text` the loader accepts: a record whose numbers are in range (R83), or a word that corresponds to no
record and so decodes to DecodeError when it is reached (R88, R108). -/
def itemLoadable : Item → Bool
  | .record r => r.wellFormed
  | .malformed w => !wordWellFormed w

/-- The launch is well formed and a run starts (R302): numbers in range, at most 1024 data words each in range, at most 32768
instructions. Input tokens are not checked at load. -/
def launchWellFormed (l : Launch) : Bool :=
  l.text.all itemLoadable && decide (l.text.length ≤ Config.maxText) && dataImageWellFormed l.data

/-- The state after reset for a launch (R46); none where the loader refuses it (R302). -/
def State.load (l : Launch) : Option State :=
  if launchWellFormed l then
    some { State.reset with imem := l.text, mem := Memory.image 0 l.data, inQ := l.input }
  else none

/-- The text of a program given as 48-bit words (R85, R88). -/
def textOfWords (ws : List InstrWord) : List Item := ws.map Item.ofWord

end Sys2Proof.Machine
end

