-- ==== Sys2Proof/Machine/MicroCode.lean ====
section
/-! DEFINITION. The 32-bit binary form of a micro-word (41_control_store.md R181, R182): one field per line, most significant
first in the firing order, code 0 inactive. The set of lines is the normative form (41_control_store.md, head); the machine
runs on that form and this file only carries it to and from bits. -/

namespace Sys2Proof.Machine

/-- The code of a strobe line: 1 active. -/
def strobeCode (b : Bool) : BitVec 1 := if b then 1#1 else 0#1

/-- `M[27:26]`. -/
def mux2Code : Option Mux2Sel → BitVec 2
  | none => 0 | some .r1 => 1 | some .r2 => 2 | some .r3 => 3
/-- `M[25:24]`; 3 is reserved. -/
def mux3Code : Option Mux3Sel → BitVec 2
  | none => 0 | some .operand => 1 | some .mux2 => 2
/-- `M[23:21]`; 6 and 7 are reserved. -/
def mux1Code : Option Mux1Sel → BitVec 3
  | none => 0 | some .alu => 1 | some .or => 2 | some .input => 3 | some .dr => 4 | some .mux2 => 5
/-- `M[20:19]`; 3 is reserved. -/
def ipCode : Option IpSel → BitVec 2
  | none => 0 | some .inc => 1 | some .operand => 2
/-- `M[18:17]`. -/
def mpcCode : Option MpcSel → BitVec 2
  | none => 0 | some .increment => 1 | some .next => 2 | some .null => 3
/-- `M[12:11]`. -/
def op1Code : Option Op1Sel → BitVec 2
  | none => 0 | some .r1 => 1 | some .r2 => 2 | some .r3 => 3
/-- `M[10:8]`; 5 to 7 are reserved. -/
def op2Code : Option Op2Sel → BitVec 3
  | none => 0 | some .r1 => 1 | some .r2 => 2 | some .r3 => 3 | some .or => 4
/-- `M[7:5]`. -/
def aluCode : Option AluOp → BitVec 3
  | none => 0 | some .add => 1 | some .sub => 2 | some .mul => 3 | some .inc => 4 | some .dec => 5 | some .div => 6
  | some .idiv => 7
/-- `M[4:3]`. -/
def latchCode : Option LatchSel → BitVec 2
  | none => 0 | some .r1 => 1 | some .r2 => 2 | some .r3 => 3

/-- The 32-bit word of a micro-word (R181); `M[31]` is reserved and 0. -/
def encodeMicro (m : MicroWord) : MicroBits :=
  0#1 ++ strobeCode m.fetch ++ strobeCode m.decode ++ strobeCode m.latchOr ++ mux2Code m.selMux2 ++ mux3Code m.selMux3
    ++ mux1Code m.selMux1 ++ ipCode m.selIp ++ mpcCode m.selMpc ++ strobeCode m.latchAr ++ strobeCode m.memRead
    ++ strobeCode m.memWrite ++ strobeCode m.latchDr ++ op1Code m.selOp1 ++ op2Code m.selOp2 ++ aluCode m.aluOp
    ++ latchCode m.latchReg ++ strobeCode m.output ++ strobeCode m.inputAdvance ++ strobeCode m.latchIp

/-- A strobe field. -/
def strobeOf (b : BitVec 1) : Bool := b == 1#1

/-- The field `M[27:26]`. -/
def mux2Of (b : BitVec 2) : Option (Option Mux2Sel) :=
  match b.toNat with
  | 0 => some none | 1 => some (some .r1) | 2 => some (some .r2) | _ => some (some .r3)
/-- The field `M[25:24]`; code 3 is reserved (R182). -/
def mux3Of (b : BitVec 2) : Option (Option Mux3Sel) :=
  match b.toNat with
  | 0 => some none | 1 => some (some .operand) | 2 => some (some .mux2) | _ => none
/-- The field `M[23:21]`; codes 6 and 7 are reserved (R182). -/
def mux1Of (b : BitVec 3) : Option (Option Mux1Sel) :=
  match b.toNat with
  | 0 => some none | 1 => some (some .alu) | 2 => some (some .or) | 3 => some (some .input) | 4 => some (some .dr)
  | 5 => some (some .mux2) | _ => none
/-- The field `M[20:19]`; code 3 is reserved (R182). -/
def ipOf (b : BitVec 2) : Option (Option IpSel) :=
  match b.toNat with
  | 0 => some none | 1 => some (some .inc) | 2 => some (some .operand) | _ => none
/-- The field `M[18:17]`. -/
def mpcOf (b : BitVec 2) : Option (Option MpcSel) :=
  match b.toNat with
  | 0 => some none | 1 => some (some .increment) | 2 => some (some .next) | _ => some (some .null)
/-- The field `M[12:11]`. -/
def op1Of (b : BitVec 2) : Option (Option Op1Sel) :=
  match b.toNat with
  | 0 => some none | 1 => some (some .r1) | 2 => some (some .r2) | _ => some (some .r3)
/-- The field `M[10:8]`; codes 5 to 7 are reserved (R182). -/
def op2Of (b : BitVec 3) : Option (Option Op2Sel) :=
  match b.toNat with
  | 0 => some none | 1 => some (some .r1) | 2 => some (some .r2) | 3 => some (some .r3) | 4 => some (some .or) | _ => none
/-- The field `M[7:5]`. -/
def aluOf (b : BitVec 3) : Option (Option AluOp) :=
  match b.toNat with
  | 0 => some none | 1 => some (some .add) | 2 => some (some .sub) | 3 => some (some .mul) | 4 => some (some .inc)
  | 5 => some (some .dec) | 6 => some (some .div) | _ => some (some .idiv)
/-- The field `M[4:3]`. -/
def latchOf (b : BitVec 2) : Option (Option LatchSel) :=
  match b.toNat with
  | 0 => some none | 1 => some (some .r1) | 2 => some (some .r2) | _ => some (some .r3)

/-- The micro-word of 32 bits; a reserved code or a set reserved bit makes the control store malformed and it is refused
(R182, 93_implementation_defined.md U8). -/
def decodeMicro (b : MicroBits) : Option MicroWord :=
  if b.extractLsb' 31 1 = 1#1 then none
  else
    match mux2Of (b.extractLsb' 26 2), mux3Of (b.extractLsb' 24 2), mux1Of (b.extractLsb' 21 3), ipOf (b.extractLsb' 19 2),
        mpcOf (b.extractLsb' 17 2), op1Of (b.extractLsb' 11 2), op2Of (b.extractLsb' 8 3), aluOf (b.extractLsb' 5 3),
        latchOf (b.extractLsb' 3 2) with
    | some m2, some m3, some m1, some ip, some mp, some o1, some o2, some al, some la =>
      some { fetch := strobeOf (b.extractLsb' 30 1), decode := strobeOf (b.extractLsb' 29 1),
             latchOr := strobeOf (b.extractLsb' 28 1), selMux2 := m2, selMux3 := m3, selMux1 := m1, selIp := ip,
             selMpc := mp, latchAr := strobeOf (b.extractLsb' 16 1), memRead := strobeOf (b.extractLsb' 15 1),
             memWrite := strobeOf (b.extractLsb' 14 1), latchDr := strobeOf (b.extractLsb' 13 1), selOp1 := o1, selOp2 := o2,
             aluOp := al, latchReg := la, output := strobeOf (b.extractLsb' 2 1),
             inputAdvance := strobeOf (b.extractLsb' 1 1), latchIp := strobeOf (b.extractLsb' 0 1) }
    | _, _, _, _, _, _, _, _, _ => none

end Sys2Proof.Machine
end

