-- ==== Sys2Proof/Machine/Trace.lean ====
section
/-! DEFINITION. What a tick shows to the outside: the trace record (60_exceptions.md R292) and the ports
(70_reset_and_hazards.md R307). Nothing of it is state and no instruction reads it. -/

namespace Sys2Proof.Machine

/-- The `action` field of a trace record: micro-words 0 and 1 are "instruction fetch", the others show the mnemonic of the
instruction being executed (R292). The strings are not fixed (log 16); `none` stands for no record in `IR`. -/
inductive TraceAction where
  | instructionFetch
  | execute (mnemonic : Option Opcode)
  deriving DecidableEq, Repr

/-- The trace record `(tick, action, mpc, pc, AR, x[1], x[2], x[3], Z, DR, OR)` (R292). -/
structure TraceRecord where
  tick : Nat
  action : TraceAction
  mpc : MicroAddr
  pc : Word
  ar : Word
  x1 : Word
  x2 : Word
  x3 : Word
  z : Bool
  dr : Word
  orReg : Word
  deriving DecidableEq, Repr

/-- The opcode of the record in `IR`. -/
def State.irOpcode (s : State) : Option Opcode :=
  match s.ir with
  | some (.record r) => some r.opcode
  | some (.malformed _) => none
  | none => none

/-- The action of the micro-word being executed (R292). -/
def State.traceAction (s : State) : TraceAction :=
  if s.mpc.val ≤ 1 then .instructionFetch else .execute s.irOpcode

/-- The record sampled at step 3 of the tick, from the state after its lines have fired (R160, R292). -/
def State.traceRecord (t : State) : TraceRecord :=
  { tick := t.tick, action := t.traceAction, mpc := t.mpc, pc := t.pc, ar := t.ar, x1 := t.r1, x2 := t.r2, x3 := t.r3,
    z := t.z, dr := t.dr, orReg := t.orReg }

/-- A tick from this state completes: it is taken and raises nothing. -/
def State.tickCompletes (s : State) : Bool :=
  decide (s.status = .running) && !s.decodesNothing && decide (s.ticked.status = .running)

/-- The record the next tick emits; a tick that raises, or is not taken, emits none (R280, R292). -/
def tickTrace (s : State) : Option TraceRecord := if s.tickCompletes then some (fireWord s).traceRecord else none

/-- A line fired in this tick: it is in the micro-word, the tick is taken, and no earlier line and not the line itself
raised. -/
def State.lineFires (s : State) (l : Line) (active : Bool) : Bool :=
  active && decide (s.status = .running) && !s.decodesNothing
    && decide ((fireLines s.mw (firingOrder.takeWhile (· != l) ++ [l]) s).status = .running)

/-- The ports of R307 but for clock and reset, in one tick: inputs as the memories and the queue inside the state drive them,
outputs as the tick drives them (decision D26, log 17). -/
structure Ports where
  /-- `imem_addr`, presented during micro-word 0. -/
  imemAddr : Option Word
  /-- `imem_valid`: the address is inside the program. -/
  imemValid : Bool
  /-- `imem_word`, where the location holds an instruction a word can carry. -/
  imemWord : Option InstrWord
  /-- `in_code`, the low 16 bits of the head token's code. -/
  inCode : Option Word
  /-- `in_empty`. -/
  inEmpty : Bool
  /-- `in_pop`: `INPUT_ADVANCE` fired in this tick. -/
  inPop : Bool
  /-- `out_strobe`: `OUTPUT` fired in this tick. -/
  outStrobe : Bool
  /-- `out_code`, the appended code, with `out_strobe`. -/
  outCode : Option (BitVec 15)
  /-- `status`, the code of R270. -/
  status : BitVec 4
  /-- `trace`, valid in a completed tick. -/
  trace : Option TraceRecord
  deriving DecidableEq, Repr

/-- The ports in the tick taken from `s`; `status` is the one before the clock edge. -/
def ports (s : State) : Ports :=
  let strobeOut := s.lineFires .output s.mw.output
  { imemAddr := if s.mpc = 0 then some s.pc else none
    imemValid := (imemRead s.imem s.pc).isSome
    imemWord := (imemRead s.imem s.pc).bind Item.toWord
    inCode := s.inQ.head?.map (BitVec.ofNat 16)
    inEmpty := s.inQ.isEmpty
    inPop := s.lineFires .inputAdvance s.mw.inputAdvance
    outStrobe := strobeOut
    outCode := if strobeOut then some (((fireWord s).out.getLastD 0 : Nat) : BitVec 15) else none
    status := BitVec.ofNat 4 s.status.code
    trace := tickTrace s }

end Sys2Proof.Machine
end

