-- ==== Sys2Proof/Safety.lean ====
section
/-! DEFINITION. The terms statements are made in: what a well-kept state is, what counts as a safe run, and what a frame says. -/

namespace Sys2Proof.Machine

/-- Data memory is in its canonical form (log 5). -/
abbrev State.MemWf (s : State) : Prop := Memory.wf s.mem = true

/-- The invariant of the core: what holds at every tick boundary of every run.
`microWord` is 10_state.md R27 and R48 (b); `memory` the canonical form of data memory (R38); `output` R42; `operand` R48 (a);
`instruction` R36: past the fetch tick of an instruction `IR` holds what stands at `pc`, and `pc` is still its address (R24). -/
structure State.Inv (s : State) : Prop where
  microWord : s.mw = cs s.mpc
  memory : s.MemWf
  output : ∀ c ∈ s.out, c < 32768
  operand : s.status = .running → s.orReg = s.decOperand
  instruction : s.mpc ≠ 0 → ∃ item, s.ir = some item ∧ imemRead s.imem s.pc = some item

/-- A clean status: Running, Halted or InputExhausted; the rest are fatal errors (60_exceptions.md R270). -/
def Status.clean : Status → Bool
  | .running => true
  | .halted => true
  | .inputExhausted => true
  | .error _ => false

/-- A safe run of `k` steps: it ends in a state with a clean status, without a fault or a refusal. -/
def SafeFor (k : Nat) (s : State) : Prop := ∃ t, Sys2Proof.core.run k s = .next t ∧ t.status.clean = true

/-- What a program can see of the data path is the same in both states: every register, the zero flag, every word of data
memory, the input queue and the output sequence. -/
structure SameData (s t : State) : Prop where
  regs : ∀ r, t.reg r = s.reg r
  zero : t.z = s.z
  words : ∀ a, Memory.read t.mem a = Memory.read s.mem a
  input : t.inQ = s.inQ
  output : t.out = s.out

/-- Every general register reads as before. -/
def SameRegs (s t : State) : Prop := ∀ r, t.reg r = s.reg r

/-- Register `d` reads `v` and every other general register reads as before. -/
def RegsSet (s t : State) (d : Reg) (v : Word) : Prop := t.reg d = v ∧ ∀ r, r ≠ d → t.reg r = s.reg r

/-- Every word of data memory reads as before. -/
def SameMemory (s t : State) : Prop := ∀ a, Memory.read t.mem a = Memory.read s.mem a

/-- The word at `a` reads `v` and every other word of data memory reads as before. -/
def MemorySet (s t : State) (a : Nat) (v : Word) : Prop :=
  Memory.read t.mem a = v ∧ ∀ b, b ≠ a → Memory.read t.mem b = Memory.read s.mem b

/-- An address in data memory, 0 to 1023 (20_memory.md R63). -/
def InMemory (a : Word) : Prop := 0 ≤ a.toInt ∧ a.toInt < 1024

/-- `wrap16(pc + 1)`, the address of the next instruction (10_state.md R25). -/
def State.pcNext (s : State) : Word := wrap16 (s.pc.toInt + 1)

/-! ## Records up to the 16-bit reading of their numbers (30_encoding.md R83, R90) -/

/-- A number argument as the core uses it: the signed reading of `wrap16` of it (R83); other arguments as they are. -/
def argNormal : Arg → Arg
  | .reg n => .reg n
  | .num v => .num (wrap16 v).toInt
  | .ind n => .ind n

/-- A record with its numbers as the core uses them. -/
def recordNormal (r : Record) : Record :=
  match r.args with
  | .none => ⟨r.opcode, .none⟩
  | .one a => ⟨r.opcode, .one (argNormal a)⟩
  | .two a b => ⟨r.opcode, .two (argNormal a) (argNormal b)⟩

/-- The number an argument carries, if it is of kind number (R83). -/
def argNumbers : Arg → List Int
  | .num v => [v]
  | .reg _ => []
  | .ind _ => []

/-- The number arguments of a record (R80, R83). -/
def recordNumbers (r : Record) : List Int :=
  match r.args with
  | .none => []
  | .one a => argNumbers a
  | .two a b => argNumbers a ++ argNumbers b

/-! ## What an instruction may write (10_state.md R22, R28) -/

/-- The register of an argument of kind register. -/
def argRegister : Arg → Option Reg
  | .reg n => Reg.ofNumber n
  | .num _ => none
  | .ind _ => none

/-- The first argument of a record, when it is a register. -/
def firstRegister (r : Record) : Option Reg :=
  match r.args with
  | .none => none
  | .one a => argRegister a
  | .two a _ => argRegister a

/-- The opcodes that write their first argument: "written by MOV, LOAD, ADD, SUB, IDIV, DIV, MUL, INC, DEC, IN" (R22). -/
def writesFirst : Opcode → Bool
  | .mov | .load | .add | .sub | .idiv | .div | .mul | .inc | .dec | .inp => true
  | .store | .cmp | .jmp | .jz | .jnz | .halt | .out => false

/-- The general register an instruction writes, if it writes one (R22). -/
def destination (i : Instr) : Option Reg := if writesFirst i.toRecord.opcode then firstRegister i.toRecord else none

/-- "Instructions that write Z: ADD, SUB, IDIV, DIV, MUL, INC, DEC, CMP" (R28). -/
def writesZ : Opcode → Bool
  | .add | .sub | .idiv | .div | .mul | .inc | .dec | .cmp => true
  | .mov | .load | .store | .jmp | .jz | .jnz | .halt | .out | .inp => false

/-- The address a STORE stores to: the effective address of its second argument (42_data_transfer.md R206 to R208). -/
def storeAddress (i : Instr) (s : State) : Option Word :=
  match i.toRecord.opcode, i.toRecord.args with
  | .store, .two _ (.num v) => some (s.effectiveAddress (.direct (wrap16 v)))
  | .store, .two _ (.ind n) => (Reg.ofNumber n).map fun r => s.effectiveAddress (.indirect r)
  | _, _ => none

end Sys2Proof.Machine
end

