-- ==== Sys2Proof/Certificates/Slice0/Obligations.lean ====
section
/-! DEFINITION. The statements for the provers, one `def Obligations.<Name> : Prop` each. "Completes" means that `exec` answers a next
state that is the effect of the instruction; `exec` starts where the fetch tick has loaded `IR` (log 1). -/

open Sys2Proof Sys2Proof.Machine

/-- Every one of the 73 instruction forms, with every 16-bit operand, is well formed, and the decoder reads it back
from its word. The word format is the spec's decision D2. Derived: 30_encoding.md section 2; 30_encoding.md section 3.
 -/
def Obligations.DecodeEncodeRoundTrip : Prop :=
  ∀ i : Instr, i.wellFormed = true ∧ decode (encode i) = .ok i

/-- A 48-bit word that decodes to an instruction form is the word the encoder writes for it, so no bit of a word is
dropped and no two words decode alike. Derived: 30_encoding.md section 2; 30_encoding.md section 3. -/
def Obligations.EncodeDecodeRoundTrip : Prop :=
  ∀ (w : InstrWord) (i : Instr), decode w = .ok i → encode i = w

/-- Decoding a word through its record gives on all 2^48 words what testing it against the 73 rows of match and mask
gives, and a word no row matches is a miss. Derived: 30_encoding.md section 3; 30_encoding.md section 6. -/
def Obligations.TableDecoderAgrees : Prop :=
  ∀ w : InstrWord, decodeByTable w = (decode w).toOption

/-- A well-formed word holds a record that a word can carry and whose word it is, and any other record a word can
carry with that word is the same one, its numbers taken modulo 65536; any other word holds no record, and decoding it
is a miss. The word format is decision D2. Derived: 30_encoding.md section 2; 30_encoding.md section 4. -/
def Obligations.RecordOfWellFormedWord : Prop :=
  ∀ w : InstrWord,
    (wordWellFormed w = true → ∃ r : Record, Item.ofWord w = .record r ∧ r.fitsWord = true ∧ r.word = w ∧
      ∀ r' : Record, r'.fitsWord = true → r'.word = w → recordNormal r' = recordNormal r) ∧
    (wordWellFormed w = false → Item.ofWord w = .malformed w ∧ ∀ i, decode w ≠ .ok i)

/-- The decoder accepts a record as a form exactly when the record, its numbers taken through wrap16, is the record of
that form: registers other than R1 to R3, equal register pairs, absent pairs and wrong shapes all miss. Derived:
30_encoding.md section 1; 30_encoding.md section 3; 30_encoding.md section 4. -/
def Obligations.DecodeRecordIffForm : Prop :=
  ∀ (r : Record) (i : Instr), decodeRecord r = .ok i ↔ recordNormal r = i.toRecord

/-- A record that is none of the 73 forms raises DecodeError with that record when DECODE fires on it, and a whole
step that fetches it ends so. Stated: R103. -/
def Obligations.RecordOutsideFormsIsDecodeError : Prop :=
  ∀ (s : State) (r : Record), (∀ i : Instr, recordNormal r ≠ i.toRecord) →
    (s.ir = some (.record r) → (fireDecode s).status = .error (.decodeError (.record r))) ∧
    (s.status = .running → s.AtBoundary → imemRead s.imem s.pc = some (.record r) →
      ∃ t, step s = .next t ∧ t.status = .error (.decodeError (.record r)))

/-- MUL R1,R3, MUL R2,R3, MUL R3,R2, CMP R2,R1, CMP R3,R2 and CMP R3,R1 raise DecodeError, whatever the zero flag.
Stated: R105. -/
def Obligations.AbsentPairsRaiseDecodeError : Prop :=
  ∀ (op : Opcode) (a b : Nat),
    (op, a, b) ∈ ([(.mul, 1, 3), (.mul, 2, 3), (.mul, 3, 2), (.cmp, 2, 1), (.cmp, 3, 2), (.cmp, 3, 1)] :
      List (Opcode × Nat × Nat)) →
    ∀ z : Bool, resolve (.record ⟨op, .two (.reg a) (.reg b)⟩) z =
      .error (.fatal (.decodeError (.record ⟨op, .two (.reg a) (.reg b)⟩)))

/-- One word of each opcode family, written from the fields of the instruction word, decodes to the instruction it
stands for. Derived: 30_encoding.md section 2; 30_encoding.md section 3. -/
def Obligations.SampleWordsDecode : Prop :=
  decode 0x030000010048#48 = .ok (.movR1 72) ∧ decode 0x028000010002#48 = .ok .movR1R2 ∧
  decode 0x0B0000010005#48 = .ok (.loadR1 5) ∧ decode 0x0B8000010002#48 = .ok .loadR1AtR2 ∧
  decode 0x13000001000A#48 = .ok (.storeR1 10) ∧ decode 0x138000010002#48 = .ok .storeR1AtR2 ∧
  decode 0x1A0000010000#48 = .ok .addR1 ∧ decode 0x228000010002#48 = .ok .subR1R2 ∧
  decode 0x2A8000010002#48 = .ok .idivR1R2 ∧ decode 0x328000030001#48 = .ok .divR3R1 ∧
  decode 0x3A8000010002#48 = .ok .mulR1R2 ∧ decode 0x420000010000#48 = .ok .incR1 ∧
  decode 0x4A0000030000#48 = .ok .decR3 ∧ decode 0x528000010002#48 = .ok .cmpR1R2 ∧
  decode 0x53000003000A#48 = .ok (.cmpR3 10) ∧ decode 0x5C0000050000#48 = .ok (.jmp 5) ∧
  decode 0x640000070000#48 = .ok (.jz 7) ∧ decode 0x6C0000030000#48 = .ok (.jnz 3) ∧
  decode 0x7A0000010000#48 = .ok .outR1 ∧ decode 0x820000010000#48 = .ok .inR1 ∧
  decode 0x700000000000#48 = .ok .halt

/-- Decoding the 32 bits of any micro-word gives it back, and 32 bits that decode are the bits of the micro-word they
decode to. The layout is decision D3. Derived: 41_control_store.md section 1. -/
def Obligations.MicroWordRoundTrip : Prop :=
  (∀ m : MicroWord, decodeMicro (encodeMicro m) = some m) ∧
  ∀ (b : MicroBits) (m : MicroWord), decodeMicro b = some m → encodeMicro m = b

/-- At micro-address 0, Running, when the instruction at pc decodes to i, step is exec of i at the state the fetch
tick leaves: IR holds the instruction, mpc is 1, the tick counter has grown by 1 (log entry 1: exec begins after the
fetch tick). Derived: 42_data_transfer.md section 1; 41_control_store.md section 2. -/
def Obligations.StepRunsDecodedInstruction : Prop :=
  ∀ (s : State) (item : Item) (i : Instr), s.status = .running → s.AtBoundary →
    imemRead s.imem s.pc = some item → decodeItem item = .ok i →
    step s = exec i { s with ir := some item, mpcSel := .increment, mpc := 1, mw := cs 1, tick := s.tick + 1 }

/-- The step after withFetchWord runs exec of the instruction the decoder reads from the word, at the state after its
fetch tick (log entry 3: how the word is placed is the model's choice). Derived: 42_data_transfer.md section 1. -/
def Obligations.PlacedWordRuns : Prop :=
  ∀ (s : State) (nbits w : Nat) (i : Instr), decodeTableWord nbits w = some i →
    step (s.withFetchWord nbits w) = exec i ((s.withFetchWord nbits w).fetched (Item.ofWord (wordOfBits nbits w)))

/-- At an instruction boundary the instruction-level step gives exactly the state that firing the control lines tick
by tick gives, up to the tick that returns to micro-address 0 or raises a condition. Derived: 40_alu_lines_tick.md
section 5; 42_data_transfer.md section 1; 41_control_store.md section 3. -/
def Obligations.StepIsTheTicksOfOneInstruction : Prop :=
  ∀ s : State, s.status = .running → s.AtBoundary → step s = ticksToBoundary boundaryFuel s

/-- When the instruction at pc decodes to i and completes, the step is exactly 2 + steps(i) ticks of the control unit
and the tick counter grows by that number. Derived: 40_alu_lines_tick.md section 5; 70_reset_and_hazards.md section 5.
 -/
def Obligations.CompletedInstructionTakesTwoPlusSteps : Prop :=
  ∀ (s t : State) (item : Item) (i : Instr), s.status = .running → s.AtBoundary →
    imemRead s.imem s.pc = some item → decodeItem item = .ok i → step s = .next t → t.status = .running →
    ticks (2 + i.steps) s = .next t ∧ t.tick = s.tick + 2 + i.steps

/-- At a boundary with pc negative or not below the length of the program, the step sets the status to
InstructionBoundsError with pc and changes nothing else. The condition is the spec's decision D9. Derived:
20_memory.md section 4; 60_exceptions.md section 1. -/
def Obligations.FetchOutsideProgramRaises : Prop :=
  ∀ s : State, s.status = .running → s.AtBoundary → (s.pc.toInt < 0 ∨ (s.imem.length : Int) ≤ s.pc.toInt) →
    step s = .next { s with status := .error (.instructionBoundsError s.pc) }

/-- When what stands at pc does not decode, the step leaves IR loaded, mpc at 1, one tick counted, the held operand
replaced by the last number argument if there is one (decision D18) and kept for a word that corresponds to no record
(DEDUCED, log entry 8), and the status DecodeError with the instruction. Derived: 40_alu_lines_tick.md section 4;
60_exceptions.md section 2. -/
def Obligations.DecodeMissState : Prop :=
  ∀ (s : State) (item : Item) (x : DecodeReject), s.status = .running → s.AtBoundary →
    imemRead s.imem s.pc = some item → decodeItem item = .error x →
    step s = .next { s with
      ir := some item, mpcSel := .increment, mpc := 1, mw := cs 1, tick := s.tick + 1,
      decOperand := item.lastNumber.getD s.decOperand, status := .error (.decodeError item) }

/-- From a state whose status is not Running, a step, a tick and a run of any length leave the state as it is (log
entry 2: the model answers the same state). Derived: 10_state.md section 8; 60_exceptions.md section 2;
60_exceptions.md section 6. -/
def Obligations.TerminalStatusIsFinal : Prop :=
  ∀ s : State, s.status ≠ .running →
    step s = .next s ∧ tick s = .next s ∧ ∀ k, Sys2Proof.core.run k s = .next s

/-- The state after reset meets State.Inv (rests on the reset values of decision D10, log entry 4, only in that OR
equals the held operand). Derived: 10_state.md section 9. -/
def Obligations.ResetMeetsInv : Prop :=
  State.reset.Inv

/-- From any state meeting State.Inv (micro-word read from the store, memory canonical, output codes below 32768, OR
equal to the held operand while Running, IR and pc agreeing inside an instruction) a step leads to one meeting it.
Derived: 10_state.md section 9; 10_state.md section 6; 10_state.md section 7. -/
def Obligations.StepKeepsInv : Prop :=
  ∀ s t : State, s.Inv → step s = .next t → t.Inv

/-- From any state meeting State.Inv, at any micro-address, one tick leads to a state meeting it. Derived: 10_state.md
section 9; 40_alu_lines_tick.md section 5; 41_control_store.md section 3. -/
def Obligations.TickKeepsInv : Prop :=
  ∀ s t : State, s.Inv → tick s = .next t → t.Inv

/-- From any state meeting State.Inv, at any micro-address, a step answers a next state, and that state stands at
micro-address 0 or has a terminal status. Derived: 40_alu_lines_tick.md section 5. -/
def Obligations.StepAnswersNext : Prop :=
  ∀ s : State, s.Inv → ∃ t, step s = .next t ∧ (t.AtBoundary ∨ t.status ≠ .running)

/-- From any Running state meeting State.Inv, a tick answers a next state, and its status is not
ControlStoreBoundsError. Derived: 40_alu_lines_tick.md section 5; 60_exceptions.md section 1. -/
def Obligations.TickAnswersNext : Prop :=
  ∀ s : State, s.Inv → s.status = .running →
    ∃ t, tick s = .next t ∧ ∀ n, t.status ≠ .error (.controlStoreBoundsError n)

/-- From the state a well-formed launch builds, a run of any number of steps answers a next state, never a fault or a
refusal; the invariant holds, the program is unchanged, and what the input queue holds is the end of the launch's
input. That a step past a terminal status answers the same state is the model's choice (log entry 2). Derived:
70_reset_and_hazards.md section 3; 40_alu_lines_tick.md section 5. -/
def Obligations.RunsOfALaunch : Prop :=
  ∀ (l : Launch) (s : State), State.load l = some s →
    ∀ k, ∃ t, Sys2Proof.core.run k s = .next t ∧ t.Inv ∧ t.imem = l.text ∧ t.inQ <:+ l.input

/-- A launch is accepted exactly when every number argument and every data element is -32768 to 65535, data has at
most 1024 and text at most 32768 elements, and an item that is no record is a word that corresponds to none (log entry
18; the bounds are decisions D15, D24 and D32). The state built is State.reset but for the program, the input queue
and data memory, where word a reads data[a] after wrap16, and 0 past the data (the other reset values are decision
D10, log entry 4). Derived: 10_state.md section 9; 20_memory.md section 5; 70_reset_and_hazards.md section 3. -/
def Obligations.LoadBuildsResetState : Prop :=
  ∀ l : Launch,
    let accepted :=
      (∀ r : Record, .record r ∈ l.text → ∀ v ∈ recordNumbers r, -32768 ≤ v ∧ v ≤ 65535) ∧
      (∀ w : InstrWord, .malformed w ∈ l.text → wordWellFormed w = false) ∧ l.text.length ≤ 32768 ∧
      l.data.length ≤ 1024 ∧ ∀ v ∈ l.data, -32768 ≤ v ∧ v ≤ 65535
    (¬accepted → State.load l = none) ∧
    (accepted → ∃ s, State.load l = some s ∧
      s = { State.reset with imem := l.text, inQ := l.input, mem := s.mem } ∧
      (∀ (a : Nat) (h : a < l.data.length), Memory.read s.mem a = wrap16 l.data[a]) ∧
      ∀ a, l.data.length ≤ a → Memory.read s.mem a = 0)

/-- When a step from an instruction boundary ends in a terminal status, every register, the zero flag, every memory
word, the input queue, the output and pc are as before. Derived: 60_exceptions.md section 2. -/
def Obligations.RaisingInstructionIsPrecise : Prop :=
  ∀ s t : State, s.status = .running → s.AtBoundary → step s = .next t → t.status ≠ .running → SameData s t ∧ t.pc = s.pc ∧ t.imem = s.imem

/-- After a tick that ends Running, tick has grown by 1, mw is the word at mpc, and mpc is the successor, dec_entry or
0 as mpc_sel says. After one that raises, mpc, mw and tick are as before (decision D21). Derived: 40_alu_lines_tick.md
section 5. -/
def Obligations.TickBookkeeping : Prop :=
  ∀ s t : State, s.status = .running → tick s = .next t →
    (t.status = .running → t.tick = s.tick + 1 ∧ t.mw = cs t.mpc ∧
      (t.mpcSel = .increment → t.mpc.val = s.mpc.val + 1) ∧
      (t.mpcSel = .next → t.mpc = t.decEntry) ∧
      (t.mpcSel = .null → t.mpc = 0)) ∧
    (t.status ≠ .running → t.mpc = s.mpc ∧ t.mw = s.mw ∧ t.tick = s.tick)

/-- A tick changes a general register only through LATCH_REG, memory only through MEM_WRITE, res and Z only through
ALU_OP, and so on for every piece of state and the line that writes it; the program changes through none. Derived:
40_alu_lines_tick.md section 2; 40_alu_lines_tick.md section 3; 10_state.md section 2. -/
def Obligations.EachLineWritesItsOwnState : Prop :=
  ∀ s t : State, tick s = .next t →
    (∀ r : Reg, (∀ l, s.mw.latchReg = some l → l.reg ≠ r) → t.reg r = s.reg r) ∧
    (s.mw.memWrite = false → t.mem = s.mem) ∧ (s.mw.memRead = false → t.mo = s.mo) ∧
    (s.mw.latchDr = false → t.dr = s.dr) ∧ (s.mw.latchAr = false → t.ar = s.ar) ∧
    (s.mw.latchOr = false → t.orReg = s.orReg) ∧ (s.mw.latchIp = false → t.pc = s.pc) ∧
    (s.mw.aluOp = none → t.res = s.res ∧ t.z = s.z) ∧
    (s.mw.selOp1 = none → t.op1 = s.op1) ∧ (s.mw.selOp2 = none → t.op2 = s.op2) ∧
    (s.mw.output = false → t.out = s.out) ∧ (s.mw.inputAdvance = false → t.inQ = s.inQ) ∧
    (s.mw.fetch = false → t.ir = s.ir) ∧
    (s.mw.decode = false → t.decOperand = s.decOperand ∧ t.decEntry = s.decEntry) ∧
    (s.mw.selMux1 = none → t.mux1Sel = s.mux1Sel) ∧ (s.mw.selMux2 = none → t.mux2Sel = s.mux2Sel) ∧
    (s.mw.selMux3 = none → t.mux3Sel = s.mux3Sel) ∧ (s.mw.selIp = none → t.ipSel = s.ipSel) ∧
    (s.mw.selMpc = none → t.mpcSel = s.mpcSel) ∧ t.imem = s.imem

/-- When a step answers a next state from any state, the program is the same, the output before is a prefix of the
output after, and the input queue after is a suffix of the one before. Derived: 10_state.md section 7; 45_io.md
section 1. -/
def Obligations.DevicesAndProgramAcrossAStep : Prop :=
  ∀ s t : State, step s = .next t → t.imem = s.imem ∧ s.out <+: t.out ∧ t.inQ <:+ s.inQ

/-- When exec of any instruction answers a next state, a register other than its destination, the zero flag of an
instruction that does not write it, every memory word but the one at the address a STORE computes, the output of all
but OUT, the input queue of all but IN, and the program are unchanged. Derived: 10_state.md section 2; 10_state.md
section 4; 20_memory.md section 4; 45_io.md section 2. -/
def Obligations.WhatInstructionsMayChange : Prop :=
  ∀ (i : Instr) (s t : State), exec i s = .next t →
    (∀ r : Reg, destination i ≠ some r → t.reg r = s.reg r) ∧
    (writesZ i.toRecord.opcode = false → t.z = s.z ∧ t.res = s.res) ∧
    (∀ a : Nat, (∀ e : Word, storeAddress i s = some e → a ≠ e.toNat) → Memory.read t.mem a = Memory.read s.mem a) ∧
    (i.toRecord.opcode ≠ .out → t.out = s.out) ∧ (i.toRecord.opcode ≠ .inp → t.inQ = s.inQ) ∧
    t.imem = s.imem ∧ t.ir = s.ir

/-- ALU_OP with each of the seven operations sets res to wrap16 of the exact result and Z to whether that is 0; DIV
and IDIV with second operand 0 raise ArithmeticError with the operation and the dividend. Stated: R120, R149. -/
def Obligations.AluOperationLine : Prop :=
  ∀ s : State,
    let a := s.op1.toInt
    let b := s.op2.toInt
    let sets : Int → State := fun r => { s with res := wrap16 r, z := decide (wrap16 r = 0) }
    fireAluOp .add s = sets (a + b) ∧ fireAluOp .sub s = sets (a - b) ∧ fireAluOp .mul s = sets (a * b) ∧
    fireAluOp .inc s = sets (a + 1) ∧ fireAluOp .dec s = sets (a - 1) ∧
    (b ≠ 0 → fireAluOp .div s = sets (Int.fdiv a b) ∧ fireAluOp .idiv s = sets (a - b * Int.fdiv a b)) ∧
    (b = 0 → fireAluOp .div s = { s with status := .error (.arithmeticError .div s.op1) } ∧
      fireAluOp .idiv s = { s with status := .error (.arithmeticError .idiv s.op1) })

/-- ADD, SUB and MUL are wrap16 of the exact signed sum, difference and product, the same 16 bits as on an unsigned
reading, with the rule's examples. Stated: R121. -/
def Obligations.AddSubMulWrap : Prop :=
  (∀ a b : Word,
    alu .add a b = some (wrap16 (a.toInt + b.toInt)) ∧ alu .add a b = some (BitVec.ofNat 16 (a.toNat + b.toNat)) ∧
    alu .sub a b = some (wrap16 (a.toInt - b.toInt)) ∧
    alu .sub a b = some (wrap16 ((a.toNat : Int) - (b.toNat : Int))) ∧
    alu .mul a b = some (wrap16 (a.toInt * b.toInt)) ∧ alu .mul a b = some (BitVec.ofNat 16 (a.toNat * b.toNat))) ∧
  alu .add 32767 1 = some (wrap16 (-32768)) ∧ alu .sub (wrap16 (-32768)) 1 = some 32767 ∧ alu .mul 256 256 = some 0 ∧
  alu .mul (wrap16 (-32768)) (wrap16 (-1)) = some (wrap16 (-32768)) ∧ alu .mul 181 182 = some (wrap16 (-32594))

/-- INC is the first operand plus 1 and DEC minus 1, whatever the second operand; both wrap; the zero flag is set
exactly for INC of -1 and DEC of 1. Stated: R122. -/
def Obligations.IncDecIgnoreSecondOperand : Prop :=
  (∀ a b : Word, alu .inc a b = some (a + 1) ∧ alu .dec a b = some (a - 1) ∧
    (zeroFlag (a + 1) = true ↔ a.toInt = -1) ∧ (zeroFlag (a - 1) = true ↔ a.toInt = 1)) ∧
  ∀ b : Word, alu .inc 32767 b = some (wrap16 (-32768)) ∧ alu .dec (wrap16 (-32768)) b = some 32767

/-- For a divisor other than 0, IDIV gives a remainder r and DIV the quotient q with a = b*q + r, r of size below b
and with the sign of b, except that -32768 DIV -1 wraps to -32768. The reading of "mod" is decision D13. Derived:
40_alu_lines_tick.md section 1. -/
def Obligations.DivIdivFloorLaw : Prop :=
  ∀ a b : Word, b ≠ 0 → ∃ q r : Word, alu .div a b = some q ∧ alu .idiv a b = some r ∧
    (0 < b.toInt → 0 ≤ r.toInt ∧ r.toInt < b.toInt) ∧ (b.toInt < 0 → b.toInt < r.toInt ∧ r.toInt ≤ 0) ∧
    (¬(a.toInt = -32768 ∧ b.toInt = -1) → a.toInt = b.toInt * q.toInt + r.toInt) ∧
    (a.toInt = -32768 ∧ b.toInt = -1 → q.toInt = -32768 ∧ r = 0)

/-- The operation line with DIV or IDIV and second operand 0 raises ArithmeticError with the dividend; res and Z keep
their values, and whatever lines follow in the tick do nothing. Stated: R125. -/
def Obligations.DivisionByZeroEndsTheTick : Prop :=
  ∀ (s : State) (op : AluOp), (op = .div ∨ op = .idiv) → s.op2 = 0 →
    (fireAluOp op s).status = .error (.arithmeticError op s.op1) ∧
    (fireAluOp op s).res = s.res ∧ (fireAluOp op s).z = s.z ∧
    ∀ (w : MicroWord) (ls : List Line), fireLines w ls (fireAluOp op s) = fireAluOp op s

/-- With memory in canonical form, a write at an address 0 to 1023 succeeds, that word then reads as the value and
every other word as before, and the form is kept; at any other address the write raises and there is no new memory.
That memory is a list in one canonical form is the model's choice (log entry 5). Derived: 20_memory.md section 4;
20_memory.md section 7. -/
def Obligations.MemWriteChangesOneWord : Prop :=
  ∀ (m : List (Nat × Word)) (a v : Word), Memory.wf m = true →
    (InMemory a → ∃ m', memWrite m a v = some m' ∧ Memory.wf m' = true ∧ Memory.read m' a.toNat = v ∧
      memRead m' a = some v ∧ ∀ b, b ≠ a.toNat → Memory.read m' b = Memory.read m b) ∧
    (a.toInt < 0 ∨ 1024 ≤ a.toInt → memWrite m a v = none)

/-- LATCH_REG sets its register to the value of mux1 and changes nothing else; that value is res, OR, DR, mux2 or the
code of the head token as mux1_sel says; with INPUT selected an empty queue raises InputExhausted, a code outside -128
to 127 OutOfRangeInput, and then the status alone changes; no other line writes a register. Stated: R140, R148. -/
def Obligations.RegisterLatchLine : Prop :=
  (∀ (s : State) (l : LatchSel) (v : Word), s.mux1 = .ok v →
    fireLatchReg l s = s.setReg l.reg v ∧ RegsSet s (fireLatchReg l s) l.reg v) ∧
  (∀ (s : State) (l : LatchSel) (c : Condition), s.mux1 = .error c →
    s.mux1Sel = .input ∧ fireLatchReg l s = { s with status := c.status }) ∧
  (∀ s : State,
    (s.mux1Sel = .alu → s.mux1 = .ok s.res) ∧ (s.mux1Sel = .or → s.mux1 = .ok s.orReg) ∧
    (s.mux1Sel = .dr → s.mux1 = .ok s.dr) ∧ (s.mux1Sel = .mux2 → s.mux1 = .ok s.mux2) ∧
    (s.mux1Sel = .input →
      (s.inQ = [] → s.mux1 = .error .inputExhausted) ∧
      ∀ (c : Nat) (q : List Nat), s.inQ = c :: q →
        ((c : Int) < -128 ∨ 127 < (c : Int) → s.mux1 = .error (.fatal (.outOfRangeInput c))) ∧
        (¬((c : Int) < -128 ∨ 127 < (c : Int)) → s.mux1 = .ok (wrap16 c)))) ∧
  ∀ (w : MicroWord) (l : Line) (s : State), l ≠ .latchReg → SameRegs s (fireLine w l s)

/-- mux2 presents the selected register and mux3 the held operand or mux2; LATCH_AR copies mux3 without a check;
MEM_READ reads the word AR addresses into MO; MEM_WRITE writes mux2 to it; both raise MemoryBoundsError outside 0 to
1023 with MO and Mem unchanged; LATCH_DR copies MO; the operand-select lines copy a register or OR. Stated: R141,
R142, R143, R144, R145, R146, R147. -/
def Obligations.MuxesAndMemoryLines : Prop :=
  ∀ s : State,
    (s.mux2Sel = .r1 → s.mux2 = s.r1) ∧ (s.mux2Sel = .r2 → s.mux2 = s.r2) ∧ (s.mux2Sel = .r3 → s.mux2 = s.r3) ∧
    (s.mux3Sel = .operand → s.mux3 = s.decOperand) ∧ (s.mux3Sel = .mux2 → s.mux3 = s.mux2) ∧
    fireLatchAr s = { s with ar := s.mux3 } ∧ fireLatchDr s = { s with dr := s.mo } ∧
    (InMemory s.ar → fireMemRead s = { s with mo := Memory.read s.mem s.ar.toNat }) ∧
    (¬InMemory s.ar → fireMemRead s = { s with status := .error (.memoryBoundsError s.ar) } ∧
      fireMemWrite s = { s with status := .error (.memoryBoundsError s.ar) }) ∧
    (InMemory s.ar → s.MemWf → fireMemWrite s = { s with mem := (fireMemWrite s).mem } ∧
      MemorySet s (fireMemWrite s) s.ar.toNat s.mux2) ∧
    (∀ (w : MicroWord) (v : Op1Sel), w.selOp1 = some v → fireLine w .selOp1 s = { s with op1 := s.reg v.reg }) ∧
    (∀ w : MicroWord, (w.selOp2 = some .r1 → fireLine w .selOp2 s = { s with op2 := s.r1 }) ∧
      (w.selOp2 = some .r2 → fireLine w .selOp2 s = { s with op2 := s.r2 }) ∧
      (w.selOp2 = some .r3 → fireLine w .selOp2 s = { s with op2 := s.r3 }) ∧
      (w.selOp2 = some .or → fireLine w .selOp2 s = { s with op2 := s.orReg }))

/-- MOV R1,#n, MOV R2,#n and MOV R3,#n complete from every state; the destination reads n, the bookkeeping is that of
a completed instruction, and nothing else changes. Derived: 42_data_transfer.md section 2. -/
def Obligations.MovImmediateResult : Prop :=
  ∀ (n : Word) (i : Instr) (d : Reg) (e : MicroAddr),
    (i, d, e) ∈ ([(.movR1 n, .r1, 2), (.movR2 n, .r2, 3), (.movR3 n, .r3, 4)] :
      List (Instr × Reg × MicroAddr)) →
    ∀ s : State, ∃ t, exec i s = .next t ∧
      t = ({ s with
        mux1Sel := .or, decOperand := n, orReg := n, decEntry := e, ipSel := .inc, mpcSel := .null, pc := s.pcNext,
        mpc := 0, mw := cs 0, tick := s.tick + 2 } : State).setReg d n ∧
      RegsSet s t d n ∧ SameMemory s t

/-- The six forms MOV Rd,Rs complete from every state; the destination reads what the source held, and nothing else
but the bookkeeping and the two selectors changes. Derived: 42_data_transfer.md section 2. -/
def Obligations.MovRegisterResult : Prop :=
  ∀ (i : Instr) (d r : Reg) (e : MicroAddr),
    (i, d, r, e) ∈ ([(.movR1R2, .r1, .r2, 5), (.movR2R1, .r2, .r1, 6), (.movR2R3, .r2, .r3, 7), (.movR3R2, .r3, .r2, 8), (.movR1R3,
      .r1, .r3, 9), (.movR3R1, .r3, .r1, 10)] :
      List (Instr × Reg × Reg × MicroAddr)) →
    ∀ s : State, ∃ t, exec i s = .next t ∧
      t = ({ s with
        mux2Sel := mux2For r, mux1Sel := .mux2, orReg := s.decOperand, decEntry := e, ipSel := .inc, mpcSel := .null, pc := s.pcNext,
        mpc := 0, mw := cs 0, tick := s.tick + 2 } : State).setReg d (s.reg r) ∧
      RegsSet s t d (s.reg r) ∧ SameMemory s t

/-- LOAD R1,#n, LOAD R2,#n and LOAD R3,#n complete whenever n is 0 to 1023; the destination, DR and MO hold the word
at n, AR holds n, and nothing else but the bookkeeping changes. Derived: 42_data_transfer.md section 3;
42_data_transfer.md section 5. -/
def Obligations.LoadDirectResult : Prop :=
  ∀ (n : Word) (i : Instr) (d : Reg) (e : MicroAddr),
    (i, d, e) ∈ ([(.loadR1 n, .r1, 11), (.loadR2 n, .r2, 13), (.loadR3 n, .r3, 15)] :
      List (Instr × Reg × MicroAddr)) →
    ∀ s : State, InMemory n → ∃ t, exec i s = .next t ∧
      t = ({ s with
        mux3Sel := .operand, mux1Sel := .dr, ar := n, mo := Memory.read s.mem n.toNat, dr := Memory.read s.mem n.toNat,
        decOperand := n, orReg := n, decEntry := e, ipSel := .inc, mpcSel := .null, pc := s.pcNext,
        mpc := 0, mw := cs 0, tick := s.tick + 3 } : State).setReg d (Memory.read s.mem n.toNat) ∧
      RegsSet s t d (Memory.read s.mem n.toNat) ∧ SameMemory s t

/-- The six forms LOAD Rd,(Rs) complete whenever the base register holds 0 to 1023; the destination, DR and MO hold
the addressed word, AR the address, and nothing else but the bookkeeping and selectors changes. Derived:
42_data_transfer.md section 3; 42_data_transfer.md section 5. -/
def Obligations.LoadIndirectResult : Prop :=
  ∀ (i : Instr) (d b : Reg) (e : MicroAddr),
    (i, d, b, e) ∈ ([(.loadR1AtR2, .r1, .r2, 23), (.loadR1AtR3, .r1, .r3, 26), (.loadR2AtR1, .r2, .r1, 29), (.loadR2AtR3, .r2, .r3,
      32), (.loadR3AtR1, .r3, .r1, 35), (.loadR3AtR2, .r3, .r2, 38)] :
      List (Instr × Reg × Reg × MicroAddr)) →
    ∀ s : State, InMemory (s.effectiveAddress (.indirect b)) →
      let v := Memory.read s.mem (s.effectiveAddress (.indirect b)).toNat
      ∃ t, exec i s = .next t ∧
        t = ({ s with
          mux2Sel := mux2For b, mux3Sel := .mux2, mux1Sel := .dr, ar := s.effectiveAddress (.indirect b), mo := v, dr := v,
          orReg := s.decOperand, decEntry := e, ipSel := .inc, mpcSel := .null, pc := s.pcNext,
          mpc := 0, mw := cs 0, tick := s.tick + 4 } : State).setReg d v ∧
        RegsSet s t d v ∧ SameMemory s t

/-- STORE R1,#n, STORE R2,#n and STORE R3,#n complete whenever n is 0 to 1023; the word at n reads the source
register, every other word as before, and nothing else but AR, selectors and the bookkeeping changes. Derived:
42_data_transfer.md section 4; 42_data_transfer.md section 5. -/
def Obligations.StoreDirectResult : Prop :=
  ∀ (n : Word) (i : Instr) (r : Reg) (e : MicroAddr),
    (i, r, e) ∈ ([(.storeR1 n, .r1, 17), (.storeR2 n, .r2, 19), (.storeR3 n, .r3, 21)] :
      List (Instr × Reg × MicroAddr)) →
    ∀ s : State, s.MemWf → InMemory (s.effectiveAddress (.direct n)) →
      ∃ t, exec i s = .next t ∧
        t = { s with
          mux2Sel := mux2For r, mux3Sel := .operand, ar := s.effectiveAddress (.direct n), mem := t.mem,
          decOperand := n, orReg := n, decEntry := e, ipSel := .inc, mpcSel := .null, pc := s.pcNext,
          mpc := 0, mw := cs 0, tick := s.tick + 3 } ∧
        t.MemWf ∧ MemorySet s t (s.effectiveAddress (.direct n)).toNat (s.reg r) ∧ SameRegs s t

/-- The six forms STORE Rs,(Rd) complete whenever the base register holds 0 to 1023; the addressed word reads the
source register, every other word as before, and nothing else but AR, selectors and the bookkeeping changes. Derived:
42_data_transfer.md section 4; 42_data_transfer.md section 5. -/
def Obligations.StoreIndirectResult : Prop :=
  ∀ (i : Instr) (r b : Reg) (e : MicroAddr),
    (i, r, b, e) ∈ ([(.storeR1AtR2, .r1, .r2, 41), (.storeR1AtR3, .r1, .r3, 43), (.storeR2AtR1, .r2, .r1, 45), (.storeR2AtR3, .r2,
      .r3, 47), (.storeR3AtR1, .r3, .r1, 49), (.storeR3AtR2, .r3, .r2, 51)] :
      List (Instr × Reg × Reg × MicroAddr)) →
    ∀ s : State, s.MemWf → InMemory (s.effectiveAddress (.indirect b)) →
      ∃ t, exec i s = .next t ∧
        t = { s with
          mux2Sel := mux2For r, mux3Sel := .mux2, ar := s.effectiveAddress (.indirect b), mem := t.mem,
          orReg := s.decOperand, decEntry := e, ipSel := .inc, mpcSel := .null, pc := s.pcNext,
          mpc := 0, mw := cs 0, tick := s.tick + 3 } ∧
        t.MemWf ∧ MemorySet s t (s.effectiveAddress (.indirect b)).toNat (s.reg r) ∧ SameRegs s t

/-- For every address 0 to 1023 and every two registers, STORE Rs,#n and then, fetched next, LOAD Rd,#n leaves in Rd
what Rs held. Derived: 20_memory.md section 7; 42_data_transfer.md section 5. -/
def Obligations.StoreThenLoadReturnsTheWord : Prop :=
  ∀ (n : Word) (x d : Reg) (s : State) (item : Item), s.MemWf → InMemory n →
    ∃ t u, exec (storeImmForm n x) s = .next t ∧ exec (loadImmForm n d) (t.fetched item) = .next u ∧ u.reg d = s.reg x

/-- ADD R1, ADD R2 and ADD R3 complete from every state; the destination holds the wrapped sum of the other two
registers, the flag says whether it is 0, the ALU latches hold the operands and the result. Which source is the first
operand is decision D12 (log entry 15). Derived: 43_arithmetic.md section 1. -/
def Obligations.AddResult : Prop :=
  ∀ (i : Instr) (d a b : Reg) (e : MicroAddr),
    (i, d, a, b, e) ∈ ([(.addR1, .r1, .r2, .r3, 53), (.addR2, .r2, .r1, .r3, 55), (.addR3, .r3, .r1, .r2, 57)] :
      List (Instr × Reg × Reg × Reg × MicroAddr)) →
    ∀ s : State,
      let v := wrap16 ((s.reg a).toInt + (s.reg b).toInt)
      ∃ t, exec i s = .next t ∧
        t = ({ s with
          op1 := s.reg a, op2 := s.reg b, res := v, z := decide (v = 0), mux1Sel := .alu,
          orReg := s.decOperand, decEntry := e, ipSel := .inc, mpcSel := .null, pc := s.pcNext,
          mpc := 0, mw := cs 0, tick := s.tick + 3 } : State).setReg d v ∧
        RegsSet s t d v ∧ SameMemory s t

/-- The six forms SUB Ra,Rb complete from every state; Ra holds the wrapped difference, the flag is set exactly when
the two were equal. That the first argument is the first operand and the destination is decision D11 (log entry 15).
Derived: 43_arithmetic.md section 2. -/
def Obligations.SubResult : Prop :=
  ∀ (i : Instr) (a b : Reg) (e : MicroAddr),
    (i, a, b, e) ∈ ([(.subR1R2, .r1, .r2, 59), (.subR2R1, .r2, .r1, 61), (.subR3R1, .r3, .r1, 63), (.subR1R3, .r1, .r3, 103),
      (.subR2R3, .r2, .r3, 105), (.subR3R2, .r3, .r2, 107)] :
      List (Instr × Reg × Reg × MicroAddr)) →
    ∀ s : State,
      let v := wrap16 ((s.reg a).toInt - (s.reg b).toInt)
      ∃ t, exec i s = .next t ∧
        t = ({ s with
          op1 := s.reg a, op2 := s.reg b, res := v, z := decide (v = 0), mux1Sel := .alu,
          orReg := s.decOperand, decEntry := e, ipSel := .inc, mpcSel := .null, pc := s.pcNext,
          mpc := 0, mw := cs 0, tick := s.tick + 3 } : State).setReg a v ∧
        RegsSet s t a v ∧ SameMemory s t ∧ (t.z = true ↔ s.reg a = s.reg b)

/-- MUL R1,R2, MUL R2,R1 and MUL R3,R1 complete from every state; Ra holds the wrapped product, the flag says whether
it is 0. The operand roles are decision D11 (log entry 15). Derived: 43_arithmetic.md section 2. -/
def Obligations.MulResult : Prop :=
  ∀ (i : Instr) (a b : Reg) (e : MicroAddr),
    (i, a, b, e) ∈ ([(.mulR1R2, .r1, .r2, 115), (.mulR2R1, .r2, .r1, 117), (.mulR3R1, .r3, .r1, 119)] :
      List (Instr × Reg × Reg × MicroAddr)) →
    ∀ s : State,
      let v := wrap16 ((s.reg a).toInt * (s.reg b).toInt)
      ∃ t, exec i s = .next t ∧
        t = ({ s with
          op1 := s.reg a, op2 := s.reg b, res := v, z := decide (v = 0), mux1Sel := .alu,
          orReg := s.decOperand, decEntry := e, ipSel := .inc, mpcSel := .null, pc := s.pcNext,
          mpc := 0, mw := cs 0, tick := s.tick + 3 } : State).setReg a v ∧
        RegsSet s t a v ∧ SameMemory s t

/-- The six forms DIV Ra,Rb complete whenever Rb is not 0; Ra holds the quotient rounded toward minus infinity,
wrapped; the flag is set exactly when the quotient is 0. The operand roles are decision D11 (log entry 15). Derived:
43_arithmetic.md section 2. -/
def Obligations.DivResult : Prop :=
  ∀ (i : Instr) (a b : Reg) (e : MicroAddr),
    (i, a, b, e) ∈ ([(.divR1R2, .r1, .r2, 71), (.divR2R1, .r2, .r1, 73), (.divR3R1, .r3, .r1, 75), (.divR1R3, .r1, .r3, 97),
      (.divR2R3, .r2, .r3, 99), (.divR3R2, .r3, .r2, 101)] :
      List (Instr × Reg × Reg × MicroAddr)) →
    ∀ s : State, s.reg b ≠ 0 →
      let v := wrap16 (Int.fdiv (s.reg a).toInt (s.reg b).toInt)
      ∃ t, exec i s = .next t ∧
        t = ({ s with
          op1 := s.reg a, op2 := s.reg b, res := v, z := decide (v = 0), mux1Sel := .alu,
          orReg := s.decOperand, decEntry := e, ipSel := .inc, mpcSel := .null, pc := s.pcNext,
          mpc := 0, mw := cs 0, tick := s.tick + 3 } : State).setReg a v ∧
        RegsSet s t a v ∧ SameMemory s t ∧ (t.z = true ↔ Int.fdiv (s.reg a).toInt (s.reg b).toInt = 0)

/-- The six forms IDIV Ra,Rb complete whenever Rb is not 0; Ra holds the remainder of the floor quotient, which fits
16 bits; the flag is set exactly when Rb divides the old Ra. Roles and the reading of "mod" are decisions D11 and D13
(log entry 15). Derived: 43_arithmetic.md section 2. -/
def Obligations.IdivResult : Prop :=
  ∀ (i : Instr) (a b : Reg) (e : MicroAddr),
    (i, a, b, e) ∈ ([(.idivR1R2, .r1, .r2, 65), (.idivR2R1, .r2, .r1, 67), (.idivR3R1, .r3, .r1, 69), (.idivR1R3, .r1, .r3, 109),
      (.idivR2R3, .r2, .r3, 111), (.idivR3R2, .r3, .r2, 113)] :
      List (Instr × Reg × Reg × MicroAddr)) →
    ∀ s : State, s.reg b ≠ 0 →
      let v := wrap16 (Int.fmod (s.reg a).toInt (s.reg b).toInt)
      ∃ t, exec i s = .next t ∧
        t = ({ s with
          op1 := s.reg a, op2 := s.reg b, res := v, z := decide (v = 0), mux1Sel := .alu,
          orReg := s.decOperand, decEntry := e, ipSel := .inc, mpcSel := .null, pc := s.pcNext,
          mpc := 0, mw := cs 0, tick := s.tick + 3 } : State).setReg a v ∧
        RegsSet s t a v ∧ SameMemory s t ∧
        (t.reg a).toInt = Int.fmod (s.reg a).toInt (s.reg b).toInt ∧ (t.z = true ↔ (s.reg b).toInt ∣ (s.reg a).toInt)

/-- INC and DEC of each register complete from every state; Rd is changed by 1 and wrapped, the flag is set exactly
when the old value was -1 (INC) or 1 (DEC), and the second operand latch keeps what it held. Derived: 43_arithmetic.md
section 3. -/
def Obligations.IncDecResult : Prop :=
  ∀ (i : Instr) (d : Reg) (k : Int) (e : MicroAddr),
    (i, d, k, e) ∈ ([(.incR1, .r1, 1, 77), (.incR2, .r2, 1, 79), (.incR3, .r3, 1, 81), (.decR1, .r1, (-1), 121), (.decR2, .r2, (-1), 123), (.decR3, .r3, (-1), 125)] :
      List (Instr × Reg × Int × MicroAddr)) →
    ∀ s : State,
      let v := wrap16 ((s.reg d).toInt + k)
      ∃ t, exec i s = .next t ∧
        t = ({ s with
          op1 := s.reg d, op2 := s.op2, res := v, z := decide (v = 0), mux1Sel := .alu,
          orReg := s.decOperand, decEntry := e, ipSel := .inc, mpcSel := .null, pc := s.pcNext,
          mpc := 0, mw := cs 0, tick := s.tick + 3 } : State).setReg d v ∧
        RegsSet s t d v ∧ SameMemory s t ∧ (t.z = true ↔ (s.reg d).toInt = -k)

/-- CMP R1,R2, CMP R2,R3, CMP R1,R3 and CMP Rd,#n complete from every state; Z tells whether the two are equal; only
the ALU latches and the bookkeeping change besides. Derived: 43_arithmetic.md section 4. -/
def Obligations.CompareResult : Prop :=
  (∀ (i : Instr) (a b : Reg) (e : MicroAddr),
    (i, a, b, e) ∈ ([(.cmpR1R2, .r1, .r2, 83), (.cmpR2R3, .r2, .r3, 84), (.cmpR1R3, .r1, .r3, 85)] :
      List (Instr × Reg × Reg × MicroAddr)) →
    ∀ s : State, ∃ t, exec i s = .next t ∧
      t = { s with
        op1 := s.reg a, op2 := s.reg b, res := wrap16 ((s.reg a).toInt - (s.reg b).toInt),
        z := decide (s.reg a = s.reg b), orReg := s.decOperand, decEntry := e, ipSel := .inc, mpcSel := .null, pc := s.pcNext,
        mpc := 0, mw := cs 0, tick := s.tick + 2 } ∧
      SameRegs s t ∧ SameMemory s t) ∧
  ∀ (n : Word) (i : Instr) (a : Reg) (e : MicroAddr),
    (i, a, e) ∈ ([(.cmpR1 n, .r1, 94), (.cmpR2 n, .r2, 95), (.cmpR3 n, .r3, 96)] :
      List (Instr × Reg × MicroAddr)) →
    ∀ s : State, ∃ t, exec i s = .next t ∧
      t = { s with
        op1 := s.reg a, op2 := n, res := wrap16 ((s.reg a).toInt - n.toInt),
        z := decide (s.reg a = n), decOperand := n, orReg := n, decEntry := e, ipSel := .inc, mpcSel := .null, pc := s.pcNext,
        mpc := 0, mw := cs 0, tick := s.tick + 2 } ∧
      SameRegs s t ∧ SameMemory s t

/-- JMP always, JZ when Z is set and JNZ when it is clear put the operand in pc; otherwise pc moves on by 1. All three
complete from every state, and registers, Z, memory and queues are unchanged. Derived: 44_control_transfer.md section
1; 44_control_transfer.md section 2. -/
def Obligations.BranchResult : Prop :=
  ∀ (n : Word) (s : State) (i : Instr) (taken : Bool),
    (i, taken) ∈ ([(.jmp n, true), (.jz n, s.z), (.jnz n, !s.z)] : List (Instr × Bool)) →
    ∃ t, exec i s = .next t ∧
      t = { s with
        decOperand := n, orReg := n, decEntry := if taken then 86 else 93, ipSel := if taken then .operand else .inc,
        mpcSel := .null, pc := if taken then n else s.pcNext, mpc := 0, mw := cs 0, tick := s.tick + 2 } ∧
      SameRegs s t ∧ SameMemory s t

/-- For the three CMP pairs and every state, the JZ fetched next goes to its target exactly when the two registers
were equal at the comparison, else to the next instruction; JNZ the other way round. Derived: 43_arithmetic.md section
4; 44_control_transfer.md section 1. -/
def Obligations.CompareThenBranch : Prop :=
  ∀ (i : Instr) (a b : Reg) (e : MicroAddr),
    (i, a, b, e) ∈ ([(.cmpR1R2, .r1, .r2, 83), (.cmpR2R3, .r2, .r3, 84), (.cmpR1R3, .r1, .r3, 85)] :
      List (Instr × Reg × Reg × MicroAddr)) →
    ∀ (s : State) (item : Item) (n : Word), ∃ t u v, exec i s = .next t ∧
      exec (.jz n) (t.fetched item) = .next u ∧ exec (.jnz n) (t.fetched item) = .next v ∧
      u.pc = (if s.reg a = s.reg b then n else t.pcNext) ∧ v.pc = (if s.reg a = s.reg b then t.pcNext else n)

/-- OUT R1, OUT R2 and OUT R3 complete whenever the register is not negative; the output gains that code at its end,
whole, and registers, Z, memory and input are unchanged. Derived: 45_io.md section 1; 45_io.md section 2. -/
def Obligations.OutResult : Prop :=
  ∀ (i : Instr) (d : Reg) (e : MicroAddr),
    (i, d, e) ∈ ([(.outR1, .r1, 87), (.outR2, .r2, 88), (.outR3, .r3, 89)] :
      List (Instr × Reg × MicroAddr)) →
    ∀ s : State, 0 ≤ (s.reg d).toInt → ∃ t, exec i s = .next t ∧
      t = { s with
        mux2Sel := mux2For d, out := s.out ++ [(s.reg d).toInt.toNat], orReg := s.decOperand, decEntry := e, ipSel := .inc, mpcSel := .null, pc := s.pcNext,
        mpc := 0, mw := cs 0, tick := s.tick + 2 } ∧
      SameRegs s t ∧ SameMemory s t

/-- IN R1, IN R2 and IN R3 complete whenever the queue's head has a code 0 to 127; the register holds it, the head is
removed, and the other registers, Z, memory and output are unchanged. Derived: 45_io.md section 1; 45_io.md section 2.
 -/
def Obligations.InResult : Prop :=
  ∀ (i : Instr) (d : Reg) (e : MicroAddr),
    (i, d, e) ∈ ([(.inR1, .r1, 90), (.inR2, .r2, 91), (.inR3, .r3, 92)] :
      List (Instr × Reg × MicroAddr)) →
    ∀ (s : State) (c : Nat) (q : List Nat), s.inQ = c :: q → c ≤ 127 → ∃ t, exec i s = .next t ∧
      t = ({ s with
        mux1Sel := .input, inQ := q, orReg := s.decOperand, decEntry := e, ipSel := .inc, mpcSel := .null, pc := s.pcNext,
        mpc := 0, mw := cs 0, tick := s.tick + 2 } : State).setReg d (BitVec.ofNat 16 c) ∧
      RegsSet s t d (BitVec.ofNat 16 c) ∧ (t.reg d).toInt = c ∧ SameMemory s t

/-- HALT from every state answers that state with the status Halted; a step whose instruction is HALT loads IR, counts
one tick and stops at micro-address 1 with pc still at the HALT. Derived: 44_control_transfer.md section 3. -/
def Obligations.HaltResult : Prop :=
  (∀ s : State, exec .halt s = .next { s with status := .halted }) ∧
  ∀ (s : State) (item : Item), s.status = .running → s.AtBoundary → imemRead s.imem s.pc = some item → decodeItem item = .ok .halt →
    step s = .next { s with
      ir := some item, mpcSel := .increment, mpc := 1, mw := cs 1, tick := s.tick + 1, status := .halted }

/-- LOAD, direct or indirect, at an address outside 0 to 1023 raises MemoryBoundsError carrying it, in its memory
micro-word: AR and the selectors are set, MO, DR, registers, Z, memory and pc are unchanged (decision D21 for what the
raising tick leaves). Derived: 42_data_transfer.md section 3; 60_exceptions.md section 2. -/
def Obligations.LoadOutOfRangeTraps : Prop :=
  (∀ (n : Word) (i : Instr) (d : Reg) (e : MicroAddr),
    (i, d, e) ∈ ([(.loadR1 n, .r1, 11), (.loadR2 n, .r2, 13), (.loadR3 n, .r3, 15)] :
      List (Instr × Reg × MicroAddr)) →
    ∀ s : State, ¬InMemory n →
      exec i s = .next { s with
        mux3Sel := .operand, ar := n, decOperand := n, orReg := n, decEntry := e, mpcSel := .increment,
        mpc := e, mw := cs e, tick := s.tick + 1, status := .error (.memoryBoundsError n) }) ∧
  ∀ (i : Instr) (d b : Reg) (e : MicroAddr),
    (i, d, b, e) ∈ ([(.loadR1AtR2, .r1, .r2, 23), (.loadR1AtR3, .r1, .r3, 26), (.loadR2AtR1, .r2, .r1, 29), (.loadR2AtR3, .r2, .r3,
      32), (.loadR3AtR1, .r3, .r1, 35), (.loadR3AtR2, .r3, .r2, 38)] :
      List (Instr × Reg × Reg × MicroAddr)) →
    ∀ s : State, ¬InMemory (s.effectiveAddress (.indirect b)) →
      exec i s = .next { s with
        mux2Sel := mux2For b, mux3Sel := .mux2, ar := s.effectiveAddress (.indirect b), orReg := s.decOperand, decEntry := e,
        mpcSel := .increment, mpc := e + 1, mw := cs (e + 1), tick := s.tick + 2,
        status := .error (.memoryBoundsError (s.effectiveAddress (.indirect b))) }

/-- STORE, direct or indirect, at an address outside 0 to 1023 raises MemoryBoundsError carrying it, in its last
micro-word: AR and the selectors are set, memory, registers, Z and pc are unchanged (decision D21 for what the raising
tick leaves). Derived: 42_data_transfer.md section 4; 60_exceptions.md section 2. -/
def Obligations.StoreOutOfRangeTraps : Prop :=
  (∀ (n : Word) (i : Instr) (r : Reg) (e : MicroAddr),
    (i, r, e) ∈ ([(.storeR1 n, .r1, 17), (.storeR2 n, .r2, 19), (.storeR3 n, .r3, 21)] :
      List (Instr × Reg × MicroAddr)) →
    ∀ s : State, ¬InMemory n →
      exec i s = .next { s with
        mux2Sel := mux2For r, mux3Sel := .operand, ar := n, decOperand := n, orReg := n, decEntry := e, ipSel := .inc,
        mpcSel := .null, mpc := e + 1, mw := cs (e + 1), tick := s.tick + 2, status := .error (.memoryBoundsError n) }) ∧
  ∀ (i : Instr) (r b : Reg) (e : MicroAddr),
    (i, r, b, e) ∈ ([(.storeR1AtR2, .r1, .r2, 41), (.storeR1AtR3, .r1, .r3, 43), (.storeR2AtR1, .r2, .r1, 45), (.storeR2AtR3, .r2,
      .r3, 47), (.storeR3AtR1, .r3, .r1, 49), (.storeR3AtR2, .r3, .r2, 51)] :
      List (Instr × Reg × Reg × MicroAddr)) →
    ∀ s : State, ¬InMemory (s.effectiveAddress (.indirect b)) →
      exec i s = .next { s with
        mux2Sel := mux2For r, mux3Sel := .mux2, ar := s.effectiveAddress (.indirect b), orReg := s.decOperand, decEntry := e,
        ipSel := .inc, mpcSel := .null, mpc := e + 1, mw := cs (e + 1), tick := s.tick + 2,
        status := .error (.memoryBoundsError (s.effectiveAddress (.indirect b))) }

/-- The twelve forms DIV and IDIV with Rb = 0 raise ArithmeticError in their first micro-word: op1 and op2 hold the
operands, and res, Z, every register, memory and pc are unchanged (decision D21 for what the raising tick leaves).
That Rb is the divisor and Ra the dividend is decision D11 (log entry 15). Derived: 43_arithmetic.md section 2;
60_exceptions.md section 2. -/
def Obligations.DivideByZeroTraps : Prop :=
  ∀ (i : Instr) (op : AluOp) (a b : Reg) (e : MicroAddr),
    (i, op, a, b, e) ∈ ([(.idivR1R2, .idiv, .r1, .r2, 65), (.idivR2R1, .idiv, .r2, .r1, 67), (.idivR3R1, .idiv, .r3, .r1, 69),
      (.idivR1R3, .idiv, .r1, .r3, 109), (.idivR2R3, .idiv, .r2, .r3, 111), (.idivR3R2, .idiv, .r3, .r2, 113),
      (.divR1R2, .div, .r1, .r2, 71), (.divR2R1, .div, .r2, .r1, 73), (.divR3R1, .div, .r3, .r1, 75), (.divR1R3,
      .div, .r1, .r3, 97), (.divR2R3, .div, .r2, .r3, 99), (.divR3R2, .div, .r3, .r2, 101)] :
      List (Instr × AluOp × Reg × Reg × MicroAddr)) →
    ∀ s : State, s.reg b = 0 →
      exec i s = .next { s with
        op1 := s.reg a, op2 := 0, orReg := s.decOperand, decEntry := e, mpcSel := .increment, mpc := e, mw := cs e,
        tick := s.tick + 1, status := .error (.arithmeticError op (s.reg a)) }

/-- IN with an empty queue turns the status to InputExhausted; IN with a head code above 127 raises OutOfRangeInput
with the code, the token left in place; OUT of a negative value raises OutOfRangeOutput (decision D19). No register,
queue, Z or pc changes (decision D21). Derived: 45_io.md section 1; 45_io.md section 2; 60_exceptions.md section 2. -/
def Obligations.InputAndOutputTraps : Prop :=
  (∀ (i : Instr) (d : Reg) (e : MicroAddr),
    (i, d, e) ∈ ([(.inR1, .r1, 90), (.inR2, .r2, 91), (.inR3, .r3, 92)] :
      List (Instr × Reg × MicroAddr)) →
    ∀ (s : State) (st : Status),
      ((s.inQ = [] ∧ st = .inputExhausted) ∨ ∃ c q, s.inQ = c :: q ∧ 127 < c ∧ st = .error (.outOfRangeInput c)) →
      exec i s = .next { s with
        mux1Sel := .input, orReg := s.decOperand, decEntry := e, ipSel := .inc, mpcSel := .null, mpc := e, mw := cs e,
        tick := s.tick + 1, status := st }) ∧
  ∀ (i : Instr) (d : Reg) (e : MicroAddr),
    (i, d, e) ∈ ([(.outR1, .r1, 87), (.outR2, .r2, 88), (.outR3, .r3, 89)] :
      List (Instr × Reg × MicroAddr)) →
    ∀ s : State, (s.reg d).toInt < 0 →
      exec i s = .next { s with
        mux2Sel := mux2For d, orReg := s.decOperand, decEntry := e, ipSel := .inc, mpcSel := .null, mpc := e, mw := cs e,
        tick := s.tick + 1, status := .error (.outOfRangeOutput (s.reg d)) }

/-- From a Running state, a tick that ends Running emits a trace record whose tick and mpc are those before the tick,
whose pc, AR, registers, Z, DR and OR are those after it, and whose action is instruction fetch at micro-words 0 and 1
and else the opcode of the record in IR (decision D29 for the sampling; that the action is a constructor and not a
string is log entry 16). A tick that raises emits none, and none is emitted once the status is terminal. Derived:
60_exceptions.md section 6. -/
def Obligations.TraceRecordOfATick : Prop :=
  ∀ s : State,
    (s.status ≠ .running → tickTrace s = none) ∧
    ∀ t : State, s.status = .running → tick s = .next t →
      (t.status = .running → ∃ r, tickTrace s = some r ∧ r.tick = s.tick ∧ r.mpc = s.mpc ∧ r.pc = t.pc ∧ r.ar = t.ar ∧
        r.x1 = t.r1 ∧ r.x2 = t.r2 ∧ r.x3 = t.r3 ∧ r.z = t.z ∧ r.dr = t.dr ∧ r.orReg = t.orReg ∧
        (s.mpc.val ≤ 1 → r.action = .instructionFetch) ∧
        (1 < s.mpc.val → ∀ record : Record, t.ir = some (.record record) → r.action = .execute (some record.opcode))) ∧
      (t.status ≠ .running → tickTrace s = none)
end

