-- ==== Sys2Proof/Laws/State.lean ====
section
/-! SUPPORT. One lemma per field per update of the state, so that no later proof unfolds a record update. -/

namespace Sys2Proof.Machine

/-! ### `State.goTo` -/

@[simp] theorem goTo_r1 (s : State) (a : MicroAddr) : (s.goTo a).r1 = s.r1 := rfl
@[simp] theorem goTo_r2 (s : State) (a : MicroAddr) : (s.goTo a).r2 = s.r2 := rfl
@[simp] theorem goTo_r3 (s : State) (a : MicroAddr) : (s.goTo a).r3 = s.r3 := rfl
@[simp] theorem goTo_ar (s : State) (a : MicroAddr) : (s.goTo a).ar = s.ar := rfl
@[simp] theorem goTo_dr (s : State) (a : MicroAddr) : (s.goTo a).dr = s.dr := rfl
@[simp] theorem goTo_orReg (s : State) (a : MicroAddr) : (s.goTo a).orReg = s.orReg := rfl
@[simp] theorem goTo_mo (s : State) (a : MicroAddr) : (s.goTo a).mo = s.mo := rfl
@[simp] theorem goTo_mux1Sel (s : State) (a : MicroAddr) : (s.goTo a).mux1Sel = s.mux1Sel := rfl
@[simp] theorem goTo_mux2Sel (s : State) (a : MicroAddr) : (s.goTo a).mux2Sel = s.mux2Sel := rfl
@[simp] theorem goTo_mux3Sel (s : State) (a : MicroAddr) : (s.goTo a).mux3Sel = s.mux3Sel := rfl
@[simp] theorem goTo_mem (s : State) (a : MicroAddr) : (s.goTo a).mem = s.mem := rfl
@[simp] theorem goTo_inQ (s : State) (a : MicroAddr) : (s.goTo a).inQ = s.inQ := rfl
@[simp] theorem goTo_out (s : State) (a : MicroAddr) : (s.goTo a).out = s.out := rfl
@[simp] theorem goTo_op1 (s : State) (a : MicroAddr) : (s.goTo a).op1 = s.op1 := rfl
@[simp] theorem goTo_op2 (s : State) (a : MicroAddr) : (s.goTo a).op2 = s.op2 := rfl
@[simp] theorem goTo_res (s : State) (a : MicroAddr) : (s.goTo a).res = s.res := rfl
@[simp] theorem goTo_z (s : State) (a : MicroAddr) : (s.goTo a).z = s.z := rfl
@[simp] theorem goTo_pc (s : State) (a : MicroAddr) : (s.goTo a).pc = s.pc := rfl
@[simp] theorem goTo_mpc (s : State) (a : MicroAddr) : (s.goTo a).mpc = a := rfl
@[simp] theorem goTo_mw (s : State) (a : MicroAddr) : (s.goTo a).mw = cs a := rfl
@[simp] theorem goTo_ipSel (s : State) (a : MicroAddr) : (s.goTo a).ipSel = s.ipSel := rfl
@[simp] theorem goTo_mpcSel (s : State) (a : MicroAddr) : (s.goTo a).mpcSel = s.mpcSel := rfl
@[simp] theorem goTo_ir (s : State) (a : MicroAddr) : (s.goTo a).ir = s.ir := rfl
@[simp] theorem goTo_imem (s : State) (a : MicroAddr) : (s.goTo a).imem = s.imem := rfl
@[simp] theorem goTo_tick (s : State) (a : MicroAddr) : (s.goTo a).tick = s.tick + 1 := rfl
@[simp] theorem goTo_status (s : State) (a : MicroAddr) : (s.goTo a).status = s.status := rfl
@[simp] theorem goTo_decOperand (s : State) (a : MicroAddr) : (s.goTo a).decOperand = s.decOperand := rfl
@[simp] theorem goTo_decEntry (s : State) (a : MicroAddr) : (s.goTo a).decEntry = s.decEntry := rfl

/-! ### `State.raise` -/

@[simp] theorem raise_r1 (s : State) (c : Condition) : (s.raise c).r1 = s.r1 := rfl
@[simp] theorem raise_r2 (s : State) (c : Condition) : (s.raise c).r2 = s.r2 := rfl
@[simp] theorem raise_r3 (s : State) (c : Condition) : (s.raise c).r3 = s.r3 := rfl
@[simp] theorem raise_ar (s : State) (c : Condition) : (s.raise c).ar = s.ar := rfl
@[simp] theorem raise_dr (s : State) (c : Condition) : (s.raise c).dr = s.dr := rfl
@[simp] theorem raise_orReg (s : State) (c : Condition) : (s.raise c).orReg = s.orReg := rfl
@[simp] theorem raise_mo (s : State) (c : Condition) : (s.raise c).mo = s.mo := rfl
@[simp] theorem raise_mux1Sel (s : State) (c : Condition) : (s.raise c).mux1Sel = s.mux1Sel := rfl
@[simp] theorem raise_mux2Sel (s : State) (c : Condition) : (s.raise c).mux2Sel = s.mux2Sel := rfl
@[simp] theorem raise_mux3Sel (s : State) (c : Condition) : (s.raise c).mux3Sel = s.mux3Sel := rfl
@[simp] theorem raise_mem (s : State) (c : Condition) : (s.raise c).mem = s.mem := rfl
@[simp] theorem raise_inQ (s : State) (c : Condition) : (s.raise c).inQ = s.inQ := rfl
@[simp] theorem raise_out (s : State) (c : Condition) : (s.raise c).out = s.out := rfl
@[simp] theorem raise_op1 (s : State) (c : Condition) : (s.raise c).op1 = s.op1 := rfl
@[simp] theorem raise_op2 (s : State) (c : Condition) : (s.raise c).op2 = s.op2 := rfl
@[simp] theorem raise_res (s : State) (c : Condition) : (s.raise c).res = s.res := rfl
@[simp] theorem raise_z (s : State) (c : Condition) : (s.raise c).z = s.z := rfl
@[simp] theorem raise_pc (s : State) (c : Condition) : (s.raise c).pc = s.pc := rfl
@[simp] theorem raise_mpc (s : State) (c : Condition) : (s.raise c).mpc = s.mpc := rfl
@[simp] theorem raise_mw (s : State) (c : Condition) : (s.raise c).mw = s.mw := rfl
@[simp] theorem raise_ipSel (s : State) (c : Condition) : (s.raise c).ipSel = s.ipSel := rfl
@[simp] theorem raise_mpcSel (s : State) (c : Condition) : (s.raise c).mpcSel = s.mpcSel := rfl
@[simp] theorem raise_ir (s : State) (c : Condition) : (s.raise c).ir = s.ir := rfl
@[simp] theorem raise_imem (s : State) (c : Condition) : (s.raise c).imem = s.imem := rfl
@[simp] theorem raise_tick (s : State) (c : Condition) : (s.raise c).tick = s.tick := rfl
@[simp] theorem raise_status (s : State) (c : Condition) : (s.raise c).status = c.status := rfl
@[simp] theorem raise_decOperand (s : State) (c : Condition) : (s.raise c).decOperand = s.decOperand := rfl
@[simp] theorem raise_decEntry (s : State) (c : Condition) : (s.raise c).decEntry = s.decEntry := rfl

/-! ### `State.takeOperand` -/

@[simp] theorem takeOperand_r1 (s : State) (n : Option Word) : (s.takeOperand n).r1 = s.r1 := rfl
@[simp] theorem takeOperand_r2 (s : State) (n : Option Word) : (s.takeOperand n).r2 = s.r2 := rfl
@[simp] theorem takeOperand_r3 (s : State) (n : Option Word) : (s.takeOperand n).r3 = s.r3 := rfl
@[simp] theorem takeOperand_ar (s : State) (n : Option Word) : (s.takeOperand n).ar = s.ar := rfl
@[simp] theorem takeOperand_dr (s : State) (n : Option Word) : (s.takeOperand n).dr = s.dr := rfl
@[simp] theorem takeOperand_orReg (s : State) (n : Option Word) : (s.takeOperand n).orReg = s.orReg := rfl
@[simp] theorem takeOperand_mo (s : State) (n : Option Word) : (s.takeOperand n).mo = s.mo := rfl
@[simp] theorem takeOperand_mux1Sel (s : State) (n : Option Word) : (s.takeOperand n).mux1Sel = s.mux1Sel := rfl
@[simp] theorem takeOperand_mux2Sel (s : State) (n : Option Word) : (s.takeOperand n).mux2Sel = s.mux2Sel := rfl
@[simp] theorem takeOperand_mux3Sel (s : State) (n : Option Word) : (s.takeOperand n).mux3Sel = s.mux3Sel := rfl
@[simp] theorem takeOperand_mem (s : State) (n : Option Word) : (s.takeOperand n).mem = s.mem := rfl
@[simp] theorem takeOperand_inQ (s : State) (n : Option Word) : (s.takeOperand n).inQ = s.inQ := rfl
@[simp] theorem takeOperand_out (s : State) (n : Option Word) : (s.takeOperand n).out = s.out := rfl
@[simp] theorem takeOperand_op1 (s : State) (n : Option Word) : (s.takeOperand n).op1 = s.op1 := rfl
@[simp] theorem takeOperand_op2 (s : State) (n : Option Word) : (s.takeOperand n).op2 = s.op2 := rfl
@[simp] theorem takeOperand_res (s : State) (n : Option Word) : (s.takeOperand n).res = s.res := rfl
@[simp] theorem takeOperand_z (s : State) (n : Option Word) : (s.takeOperand n).z = s.z := rfl
@[simp] theorem takeOperand_pc (s : State) (n : Option Word) : (s.takeOperand n).pc = s.pc := rfl
@[simp] theorem takeOperand_mpc (s : State) (n : Option Word) : (s.takeOperand n).mpc = s.mpc := rfl
@[simp] theorem takeOperand_mw (s : State) (n : Option Word) : (s.takeOperand n).mw = s.mw := rfl
@[simp] theorem takeOperand_ipSel (s : State) (n : Option Word) : (s.takeOperand n).ipSel = s.ipSel := rfl
@[simp] theorem takeOperand_mpcSel (s : State) (n : Option Word) : (s.takeOperand n).mpcSel = s.mpcSel := rfl
@[simp] theorem takeOperand_ir (s : State) (n : Option Word) : (s.takeOperand n).ir = s.ir := rfl
@[simp] theorem takeOperand_imem (s : State) (n : Option Word) : (s.takeOperand n).imem = s.imem := rfl
@[simp] theorem takeOperand_tick (s : State) (n : Option Word) : (s.takeOperand n).tick = s.tick := rfl
@[simp] theorem takeOperand_status (s : State) (n : Option Word) : (s.takeOperand n).status = s.status := rfl
@[simp] theorem takeOperand_decOperand (s : State) (n : Option Word) : (s.takeOperand n).decOperand = n.getD s.decOperand := rfl
@[simp] theorem takeOperand_decEntry (s : State) (n : Option Word) : (s.takeOperand n).decEntry = s.decEntry := rfl

/-! ### `State.fetched` -/

@[simp] theorem fetched_r1 (s : State) (i : Item) : (s.fetched i).r1 = s.r1 := rfl
@[simp] theorem fetched_r2 (s : State) (i : Item) : (s.fetched i).r2 = s.r2 := rfl
@[simp] theorem fetched_r3 (s : State) (i : Item) : (s.fetched i).r3 = s.r3 := rfl
@[simp] theorem fetched_ar (s : State) (i : Item) : (s.fetched i).ar = s.ar := rfl
@[simp] theorem fetched_dr (s : State) (i : Item) : (s.fetched i).dr = s.dr := rfl
@[simp] theorem fetched_orReg (s : State) (i : Item) : (s.fetched i).orReg = s.orReg := rfl
@[simp] theorem fetched_mo (s : State) (i : Item) : (s.fetched i).mo = s.mo := rfl
@[simp] theorem fetched_mux1Sel (s : State) (i : Item) : (s.fetched i).mux1Sel = s.mux1Sel := rfl
@[simp] theorem fetched_mux2Sel (s : State) (i : Item) : (s.fetched i).mux2Sel = s.mux2Sel := rfl
@[simp] theorem fetched_mux3Sel (s : State) (i : Item) : (s.fetched i).mux3Sel = s.mux3Sel := rfl
@[simp] theorem fetched_mem (s : State) (i : Item) : (s.fetched i).mem = s.mem := rfl
@[simp] theorem fetched_inQ (s : State) (i : Item) : (s.fetched i).inQ = s.inQ := rfl
@[simp] theorem fetched_out (s : State) (i : Item) : (s.fetched i).out = s.out := rfl
@[simp] theorem fetched_op1 (s : State) (i : Item) : (s.fetched i).op1 = s.op1 := rfl
@[simp] theorem fetched_op2 (s : State) (i : Item) : (s.fetched i).op2 = s.op2 := rfl
@[simp] theorem fetched_res (s : State) (i : Item) : (s.fetched i).res = s.res := rfl
@[simp] theorem fetched_z (s : State) (i : Item) : (s.fetched i).z = s.z := rfl
@[simp] theorem fetched_pc (s : State) (i : Item) : (s.fetched i).pc = s.pc := rfl
@[simp] theorem fetched_mpc (s : State) (i : Item) : (s.fetched i).mpc = 1 := rfl
@[simp] theorem fetched_mw (s : State) (i : Item) : (s.fetched i).mw = cs 1 := rfl
@[simp] theorem fetched_ipSel (s : State) (i : Item) : (s.fetched i).ipSel = s.ipSel := rfl
@[simp] theorem fetched_mpcSel (s : State) (i : Item) : (s.fetched i).mpcSel = .increment := rfl
@[simp] theorem fetched_ir (s : State) (i : Item) : (s.fetched i).ir = some i := rfl
@[simp] theorem fetched_imem (s : State) (i : Item) : (s.fetched i).imem = s.imem := rfl
@[simp] theorem fetched_tick (s : State) (i : Item) : (s.fetched i).tick = s.tick + 1 := rfl
@[simp] theorem fetched_status (s : State) (i : Item) : (s.fetched i).status = s.status := rfl
@[simp] theorem fetched_decOperand (s : State) (i : Item) : (s.fetched i).decOperand = s.decOperand := rfl
@[simp] theorem fetched_decEntry (s : State) (i : Item) : (s.fetched i).decEntry = s.decEntry := rfl

/-! ### `State.dispatch` -/

@[simp] theorem dispatch_r1 (s : State) (n : Option Word) (e : MicroAddr) : (s.dispatch n e).r1 = s.r1 := rfl
@[simp] theorem dispatch_r2 (s : State) (n : Option Word) (e : MicroAddr) : (s.dispatch n e).r2 = s.r2 := rfl
@[simp] theorem dispatch_r3 (s : State) (n : Option Word) (e : MicroAddr) : (s.dispatch n e).r3 = s.r3 := rfl
@[simp] theorem dispatch_ar (s : State) (n : Option Word) (e : MicroAddr) : (s.dispatch n e).ar = s.ar := rfl
@[simp] theorem dispatch_dr (s : State) (n : Option Word) (e : MicroAddr) : (s.dispatch n e).dr = s.dr := rfl
@[simp] theorem dispatch_orReg (s : State) (n : Option Word) (e : MicroAddr) : (s.dispatch n e).orReg = n.getD s.decOperand := rfl
@[simp] theorem dispatch_mo (s : State) (n : Option Word) (e : MicroAddr) : (s.dispatch n e).mo = s.mo := rfl
@[simp] theorem dispatch_mux1Sel (s : State) (n : Option Word) (e : MicroAddr) : (s.dispatch n e).mux1Sel = s.mux1Sel := rfl
@[simp] theorem dispatch_mux2Sel (s : State) (n : Option Word) (e : MicroAddr) : (s.dispatch n e).mux2Sel = s.mux2Sel := rfl
@[simp] theorem dispatch_mux3Sel (s : State) (n : Option Word) (e : MicroAddr) : (s.dispatch n e).mux3Sel = s.mux3Sel := rfl
@[simp] theorem dispatch_mem (s : State) (n : Option Word) (e : MicroAddr) : (s.dispatch n e).mem = s.mem := rfl
@[simp] theorem dispatch_inQ (s : State) (n : Option Word) (e : MicroAddr) : (s.dispatch n e).inQ = s.inQ := rfl
@[simp] theorem dispatch_out (s : State) (n : Option Word) (e : MicroAddr) : (s.dispatch n e).out = s.out := rfl
@[simp] theorem dispatch_op1 (s : State) (n : Option Word) (e : MicroAddr) : (s.dispatch n e).op1 = s.op1 := rfl
@[simp] theorem dispatch_op2 (s : State) (n : Option Word) (e : MicroAddr) : (s.dispatch n e).op2 = s.op2 := rfl
@[simp] theorem dispatch_res (s : State) (n : Option Word) (e : MicroAddr) : (s.dispatch n e).res = s.res := rfl
@[simp] theorem dispatch_z (s : State) (n : Option Word) (e : MicroAddr) : (s.dispatch n e).z = s.z := rfl
@[simp] theorem dispatch_pc (s : State) (n : Option Word) (e : MicroAddr) : (s.dispatch n e).pc = s.pc := rfl
@[simp] theorem dispatch_mpc (s : State) (n : Option Word) (e : MicroAddr) : (s.dispatch n e).mpc = e := rfl
@[simp] theorem dispatch_mw (s : State) (n : Option Word) (e : MicroAddr) : (s.dispatch n e).mw = cs e := rfl
@[simp] theorem dispatch_ipSel (s : State) (n : Option Word) (e : MicroAddr) : (s.dispatch n e).ipSel = s.ipSel := rfl
@[simp] theorem dispatch_mpcSel (s : State) (n : Option Word) (e : MicroAddr) : (s.dispatch n e).mpcSel = .next := rfl
@[simp] theorem dispatch_ir (s : State) (n : Option Word) (e : MicroAddr) : (s.dispatch n e).ir = s.ir := rfl
@[simp] theorem dispatch_imem (s : State) (n : Option Word) (e : MicroAddr) : (s.dispatch n e).imem = s.imem := rfl
@[simp] theorem dispatch_tick (s : State) (n : Option Word) (e : MicroAddr) : (s.dispatch n e).tick = s.tick + 1 := rfl
@[simp] theorem dispatch_status (s : State) (n : Option Word) (e : MicroAddr) : (s.dispatch n e).status = s.status := rfl
@[simp] theorem dispatch_decOperand (s : State) (n : Option Word) (e : MicroAddr) : (s.dispatch n e).decOperand = n.getD s.decOperand := rfl
@[simp] theorem dispatch_decEntry (s : State) (n : Option Word) (e : MicroAddr) : (s.dispatch n e).decEntry = e := rfl

/-! ### `State.nextWord` -/

@[simp] theorem nextWord_r1 (s : State) : (s.nextWord).r1 = s.r1 := rfl
@[simp] theorem nextWord_r2 (s : State) : (s.nextWord).r2 = s.r2 := rfl
@[simp] theorem nextWord_r3 (s : State) : (s.nextWord).r3 = s.r3 := rfl
@[simp] theorem nextWord_ar (s : State) : (s.nextWord).ar = s.ar := rfl
@[simp] theorem nextWord_dr (s : State) : (s.nextWord).dr = s.dr := rfl
@[simp] theorem nextWord_orReg (s : State) : (s.nextWord).orReg = s.orReg := rfl
@[simp] theorem nextWord_mo (s : State) : (s.nextWord).mo = s.mo := rfl
@[simp] theorem nextWord_mux1Sel (s : State) : (s.nextWord).mux1Sel = s.mux1Sel := rfl
@[simp] theorem nextWord_mux2Sel (s : State) : (s.nextWord).mux2Sel = s.mux2Sel := rfl
@[simp] theorem nextWord_mux3Sel (s : State) : (s.nextWord).mux3Sel = s.mux3Sel := rfl
@[simp] theorem nextWord_mem (s : State) : (s.nextWord).mem = s.mem := rfl
@[simp] theorem nextWord_inQ (s : State) : (s.nextWord).inQ = s.inQ := rfl
@[simp] theorem nextWord_out (s : State) : (s.nextWord).out = s.out := rfl
@[simp] theorem nextWord_op1 (s : State) : (s.nextWord).op1 = s.op1 := rfl
@[simp] theorem nextWord_op2 (s : State) : (s.nextWord).op2 = s.op2 := rfl
@[simp] theorem nextWord_res (s : State) : (s.nextWord).res = s.res := rfl
@[simp] theorem nextWord_z (s : State) : (s.nextWord).z = s.z := rfl
@[simp] theorem nextWord_pc (s : State) : (s.nextWord).pc = s.pc := rfl
@[simp] theorem nextWord_mpc (s : State) : (s.nextWord).mpc = s.mpc + 1 := rfl
@[simp] theorem nextWord_mw (s : State) : (s.nextWord).mw = cs (s.mpc + 1) := rfl
@[simp] theorem nextWord_ipSel (s : State) : (s.nextWord).ipSel = s.ipSel := rfl
@[simp] theorem nextWord_mpcSel (s : State) : (s.nextWord).mpcSel = .increment := rfl
@[simp] theorem nextWord_ir (s : State) : (s.nextWord).ir = s.ir := rfl
@[simp] theorem nextWord_imem (s : State) : (s.nextWord).imem = s.imem := rfl
@[simp] theorem nextWord_tick (s : State) : (s.nextWord).tick = s.tick + 1 := rfl
@[simp] theorem nextWord_status (s : State) : (s.nextWord).status = s.status := rfl
@[simp] theorem nextWord_decOperand (s : State) : (s.nextWord).decOperand = s.decOperand := rfl
@[simp] theorem nextWord_decEntry (s : State) : (s.nextWord).decEntry = s.decEntry := rfl

/-! ### `State.selectEnd` -/

@[simp] theorem selectEnd_r1 (s : State) : (s.selectEnd).r1 = s.r1 := rfl
@[simp] theorem selectEnd_r2 (s : State) : (s.selectEnd).r2 = s.r2 := rfl
@[simp] theorem selectEnd_r3 (s : State) : (s.selectEnd).r3 = s.r3 := rfl
@[simp] theorem selectEnd_ar (s : State) : (s.selectEnd).ar = s.ar := rfl
@[simp] theorem selectEnd_dr (s : State) : (s.selectEnd).dr = s.dr := rfl
@[simp] theorem selectEnd_orReg (s : State) : (s.selectEnd).orReg = s.orReg := rfl
@[simp] theorem selectEnd_mo (s : State) : (s.selectEnd).mo = s.mo := rfl
@[simp] theorem selectEnd_mux1Sel (s : State) : (s.selectEnd).mux1Sel = s.mux1Sel := rfl
@[simp] theorem selectEnd_mux2Sel (s : State) : (s.selectEnd).mux2Sel = s.mux2Sel := rfl
@[simp] theorem selectEnd_mux3Sel (s : State) : (s.selectEnd).mux3Sel = s.mux3Sel := rfl
@[simp] theorem selectEnd_mem (s : State) : (s.selectEnd).mem = s.mem := rfl
@[simp] theorem selectEnd_inQ (s : State) : (s.selectEnd).inQ = s.inQ := rfl
@[simp] theorem selectEnd_out (s : State) : (s.selectEnd).out = s.out := rfl
@[simp] theorem selectEnd_op1 (s : State) : (s.selectEnd).op1 = s.op1 := rfl
@[simp] theorem selectEnd_op2 (s : State) : (s.selectEnd).op2 = s.op2 := rfl
@[simp] theorem selectEnd_res (s : State) : (s.selectEnd).res = s.res := rfl
@[simp] theorem selectEnd_z (s : State) : (s.selectEnd).z = s.z := rfl
@[simp] theorem selectEnd_pc (s : State) : (s.selectEnd).pc = s.pc := rfl
@[simp] theorem selectEnd_mpc (s : State) : (s.selectEnd).mpc = s.mpc := rfl
@[simp] theorem selectEnd_mw (s : State) : (s.selectEnd).mw = s.mw := rfl
@[simp] theorem selectEnd_ipSel (s : State) : (s.selectEnd).ipSel = .inc := rfl
@[simp] theorem selectEnd_mpcSel (s : State) : (s.selectEnd).mpcSel = .null := rfl
@[simp] theorem selectEnd_ir (s : State) : (s.selectEnd).ir = s.ir := rfl
@[simp] theorem selectEnd_imem (s : State) : (s.selectEnd).imem = s.imem := rfl
@[simp] theorem selectEnd_tick (s : State) : (s.selectEnd).tick = s.tick := rfl
@[simp] theorem selectEnd_status (s : State) : (s.selectEnd).status = s.status := rfl
@[simp] theorem selectEnd_decOperand (s : State) : (s.selectEnd).decOperand = s.decOperand := rfl
@[simp] theorem selectEnd_decEntry (s : State) : (s.selectEnd).decEntry = s.decEntry := rfl

/-! ### `State.retire` -/

@[simp] theorem retire_r1 (s : State) (ip : IpSel) : (s.retire ip).r1 = s.r1 := rfl
@[simp] theorem retire_r2 (s : State) (ip : IpSel) : (s.retire ip).r2 = s.r2 := rfl
@[simp] theorem retire_r3 (s : State) (ip : IpSel) : (s.retire ip).r3 = s.r3 := rfl
@[simp] theorem retire_ar (s : State) (ip : IpSel) : (s.retire ip).ar = s.ar := rfl
@[simp] theorem retire_dr (s : State) (ip : IpSel) : (s.retire ip).dr = s.dr := rfl
@[simp] theorem retire_orReg (s : State) (ip : IpSel) : (s.retire ip).orReg = s.orReg := rfl
@[simp] theorem retire_mo (s : State) (ip : IpSel) : (s.retire ip).mo = s.mo := rfl
@[simp] theorem retire_mux1Sel (s : State) (ip : IpSel) : (s.retire ip).mux1Sel = s.mux1Sel := rfl
@[simp] theorem retire_mux2Sel (s : State) (ip : IpSel) : (s.retire ip).mux2Sel = s.mux2Sel := rfl
@[simp] theorem retire_mux3Sel (s : State) (ip : IpSel) : (s.retire ip).mux3Sel = s.mux3Sel := rfl
@[simp] theorem retire_mem (s : State) (ip : IpSel) : (s.retire ip).mem = s.mem := rfl
@[simp] theorem retire_inQ (s : State) (ip : IpSel) : (s.retire ip).inQ = s.inQ := rfl
@[simp] theorem retire_out (s : State) (ip : IpSel) : (s.retire ip).out = s.out := rfl
@[simp] theorem retire_op1 (s : State) (ip : IpSel) : (s.retire ip).op1 = s.op1 := rfl
@[simp] theorem retire_op2 (s : State) (ip : IpSel) : (s.retire ip).op2 = s.op2 := rfl
@[simp] theorem retire_res (s : State) (ip : IpSel) : (s.retire ip).res = s.res := rfl
@[simp] theorem retire_z (s : State) (ip : IpSel) : (s.retire ip).z = s.z := rfl
@[simp] theorem retire_pc (s : State) (ip : IpSel) : (s.retire ip).pc = s.nextPc ip := rfl
@[simp] theorem retire_mpc (s : State) (ip : IpSel) : (s.retire ip).mpc = 0 := rfl
@[simp] theorem retire_mw (s : State) (ip : IpSel) : (s.retire ip).mw = cs 0 := rfl
@[simp] theorem retire_ipSel (s : State) (ip : IpSel) : (s.retire ip).ipSel = ip := rfl
@[simp] theorem retire_mpcSel (s : State) (ip : IpSel) : (s.retire ip).mpcSel = .null := rfl
@[simp] theorem retire_ir (s : State) (ip : IpSel) : (s.retire ip).ir = s.ir := rfl
@[simp] theorem retire_imem (s : State) (ip : IpSel) : (s.retire ip).imem = s.imem := rfl
@[simp] theorem retire_tick (s : State) (ip : IpSel) : (s.retire ip).tick = s.tick + 1 := rfl
@[simp] theorem retire_status (s : State) (ip : IpSel) : (s.retire ip).status = s.status := rfl
@[simp] theorem retire_decOperand (s : State) (ip : IpSel) : (s.retire ip).decOperand = s.decOperand := rfl
@[simp] theorem retire_decEntry (s : State) (ip : IpSel) : (s.retire ip).decEntry = s.decEntry := rfl

/-! ### `State.setReg` -/

@[simp] theorem setReg_r1 (s : State) (r : Reg) (v : Word) :
    (s.setReg r v).r1 = if r = .r1 then v else s.r1 := by cases r <;> rfl
@[simp] theorem setReg_r2 (s : State) (r : Reg) (v : Word) :
    (s.setReg r v).r2 = if r = .r2 then v else s.r2 := by cases r <;> rfl
@[simp] theorem setReg_r3 (s : State) (r : Reg) (v : Word) :
    (s.setReg r v).r3 = if r = .r3 then v else s.r3 := by cases r <;> rfl
@[simp] theorem setReg_ar (s : State) (r : Reg) (v : Word) : (s.setReg r v).ar = s.ar := by cases r <;> rfl
@[simp] theorem setReg_dr (s : State) (r : Reg) (v : Word) : (s.setReg r v).dr = s.dr := by cases r <;> rfl
@[simp] theorem setReg_orReg (s : State) (r : Reg) (v : Word) : (s.setReg r v).orReg = s.orReg := by cases r <;> rfl
@[simp] theorem setReg_mo (s : State) (r : Reg) (v : Word) : (s.setReg r v).mo = s.mo := by cases r <;> rfl
@[simp] theorem setReg_mux1Sel (s : State) (r : Reg) (v : Word) : (s.setReg r v).mux1Sel = s.mux1Sel := by cases r <;> rfl
@[simp] theorem setReg_mux2Sel (s : State) (r : Reg) (v : Word) : (s.setReg r v).mux2Sel = s.mux2Sel := by cases r <;> rfl
@[simp] theorem setReg_mux3Sel (s : State) (r : Reg) (v : Word) : (s.setReg r v).mux3Sel = s.mux3Sel := by cases r <;> rfl
@[simp] theorem setReg_mem (s : State) (r : Reg) (v : Word) : (s.setReg r v).mem = s.mem := by cases r <;> rfl
@[simp] theorem setReg_inQ (s : State) (r : Reg) (v : Word) : (s.setReg r v).inQ = s.inQ := by cases r <;> rfl
@[simp] theorem setReg_out (s : State) (r : Reg) (v : Word) : (s.setReg r v).out = s.out := by cases r <;> rfl
@[simp] theorem setReg_op1 (s : State) (r : Reg) (v : Word) : (s.setReg r v).op1 = s.op1 := by cases r <;> rfl
@[simp] theorem setReg_op2 (s : State) (r : Reg) (v : Word) : (s.setReg r v).op2 = s.op2 := by cases r <;> rfl
@[simp] theorem setReg_res (s : State) (r : Reg) (v : Word) : (s.setReg r v).res = s.res := by cases r <;> rfl
@[simp] theorem setReg_z (s : State) (r : Reg) (v : Word) : (s.setReg r v).z = s.z := by cases r <;> rfl
@[simp] theorem setReg_pc (s : State) (r : Reg) (v : Word) : (s.setReg r v).pc = s.pc := by cases r <;> rfl
@[simp] theorem setReg_mpc (s : State) (r : Reg) (v : Word) : (s.setReg r v).mpc = s.mpc := by cases r <;> rfl
@[simp] theorem setReg_mw (s : State) (r : Reg) (v : Word) : (s.setReg r v).mw = s.mw := by cases r <;> rfl
@[simp] theorem setReg_ipSel (s : State) (r : Reg) (v : Word) : (s.setReg r v).ipSel = s.ipSel := by cases r <;> rfl
@[simp] theorem setReg_mpcSel (s : State) (r : Reg) (v : Word) : (s.setReg r v).mpcSel = s.mpcSel := by cases r <;> rfl
@[simp] theorem setReg_ir (s : State) (r : Reg) (v : Word) : (s.setReg r v).ir = s.ir := by cases r <;> rfl
@[simp] theorem setReg_imem (s : State) (r : Reg) (v : Word) : (s.setReg r v).imem = s.imem := by cases r <;> rfl
@[simp] theorem setReg_tick (s : State) (r : Reg) (v : Word) : (s.setReg r v).tick = s.tick := by cases r <;> rfl
@[simp] theorem setReg_status (s : State) (r : Reg) (v : Word) : (s.setReg r v).status = s.status := by cases r <;> rfl
@[simp] theorem setReg_decOperand (s : State) (r : Reg) (v : Word) : (s.setReg r v).decOperand = s.decOperand := by cases r <;> rfl
@[simp] theorem setReg_decEntry (s : State) (r : Reg) (v : Word) : (s.setReg r v).decEntry = s.decEntry := by cases r <;> rfl

/-! ### Reading a register of an updated state -/

@[simp] theorem reg_setReg (s : State) (d r : Reg) (v : Word) :
    (s.setReg d v).reg r = if r = d then v else s.reg r := by
  cases d <;> cases r <;> rfl

/-- Reading a register looks at the three register fields only. -/
theorem reg_congr {s t : State} (h1 : t.r1 = s.r1) (h2 : t.r2 = s.r2) (h3 : t.r3 = s.r3) (r : Reg) :
    t.reg r = s.reg r := by
  cases r <;> assumption

@[simp] theorem reg_goTo (s : State) (a : MicroAddr) (r : Reg) : (s.goTo a).reg r = s.reg r := by cases r <;> rfl
@[simp] theorem reg_raise (s : State) (c : Condition) (r : Reg) : (s.raise c).reg r = s.reg r := by cases r <;> rfl
@[simp] theorem reg_takeOperand (s : State) (n : Option Word) (r : Reg) : (s.takeOperand n).reg r = s.reg r := by cases r <;> rfl
@[simp] theorem reg_fetched (s : State) (i : Item) (r : Reg) : (s.fetched i).reg r = s.reg r := by cases r <;> rfl
@[simp] theorem reg_dispatch (s : State) (n : Option Word) (e : MicroAddr) (r : Reg) : (s.dispatch n e).reg r = s.reg r := by cases r <;> rfl
@[simp] theorem reg_nextWord (s : State) (r : Reg) : (s.nextWord).reg r = s.reg r := by cases r <;> rfl
@[simp] theorem reg_selectEnd (s : State) (r : Reg) : (s.selectEnd).reg r = s.reg r := by cases r <;> rfl
@[simp] theorem reg_retire (s : State) (ip : IpSel) (r : Reg) : (s.retire ip).reg r = s.reg r := by cases r <;> rfl

end Sys2Proof.Machine
end

