-- ==== Sys2Proof/Laws/Decode.lean ====
section
/-! SUPPORT. The fields of a packed word, and the record a word carries. -/

namespace Sys2Proof.Laws

/-- Packing five fields and reading them back (30_encoding.md R85). -/
theorem packWord_fields (op : BitVec 5) (k1 k2 : BitVec 2) (v1 v2 : Word) :
    opcodeField (packWord op k1 k2 v1 v2) = op ∧ kind1Field (packWord op k1 k2 v1 v2) = k1
      ∧ kind2Field (packWord op k1 k2 v1 v2) = k2 ∧ zeroField (packWord op k1 k2 v1 v2) = 0#7
      ∧ value1Field (packWord op k1 k2 v1 v2) = v1 ∧ value2Field (packWord op k1 k2 v1 v2) = v2 := by
  refine ⟨?_, ?_, ?_, ?_, ?_, ?_⟩ <;>
    · apply BitVec.eq_of_getLsbD_eq
      intro i hi
      simp only [opcodeField, kind1Field, kind2Field, zeroField, value1Field, value2Field, packWord,
        BitVec.getLsbD_extractLsb', BitVec.getLsbD_append]
      interval_cases i <;> simp

/-- The opcode number fits its field, and names the opcode (R86). -/
theorem opcode_number_field (op : Opcode) :
    (BitVec.ofNat 5 op.number).toNat ≤ 16 ∧ Opcode.ofNumber (BitVec.ofNat 5 op.number).toNat = some op := by
  cases op <;> decide

/-- An argument a word carries: its kind code and value field read back as it. -/
abbrev Carried (a : Arg) : Prop := argOfField a.kind a.field = some a

theorem carried_reg {n : Nat} (h : n < 65536) : Carried (.reg n) := by
  simp [Carried, argOfField, Arg.kind, Arg.field, Nat.mod_eq_of_lt h]

theorem carried_ind {n : Nat} (h : n < 65536) : Carried (.ind n) := by
  simp [Carried, argOfField, Arg.kind, Arg.field, Nat.mod_eq_of_lt h]

theorem carried_num (n : Word) : Carried (.num n.toInt) := by
  simp [Carried, argOfField, Arg.kind, Arg.field, wrap16]

theorem kind_ne_zero (a : Arg) : a.kind ≠ 0#2 := by
  cases a <;> simp [Arg.kind]

/-- A record without arguments is carried by its word (R88). -/
theorem ofWord_none (op : Opcode) : Item.ofWord (Record.word ⟨op, .none⟩) = .record ⟨op, .none⟩ := by
  obtain ⟨h1, h2, h3, h4, h5, h6⟩ := packWord_fields (BitVec.ofNat 5 op.number) 0#2 0#2 0#16 0#16
  obtain ⟨ho, hn⟩ := opcode_number_field op
  simp only [Record.word]
  unfold Item.ofWord wordWellFormed
  rw [h1, h2, h3, h4, h5, h6, hn]
  simp only [BitVec.toNat_ofNat] at ho
  simp [argOfField, ho]

/-- A record with one carried argument is carried by its word (R88). -/
theorem ofWord_one (op : Opcode) {a : Arg} (ha : Carried a) :
    Item.ofWord (Record.word ⟨op, .one a⟩) = .record ⟨op, .one a⟩ := by
  obtain ⟨h1, h2, h3, h4, h5, h6⟩ := packWord_fields (BitVec.ofNat 5 op.number) a.kind 0#2 a.field 0#16
  obtain ⟨ho, hn⟩ := opcode_number_field op
  simp only [Record.word]
  unfold Item.ofWord wordWellFormed
  rw [h1, h2, h3, h4, h5, h6, hn, ha]
  have hk := kind_ne_zero a
  simp only [BitVec.toNat_ofNat] at ho
  simp [argOfField, ho, hk]

/-- A record with two carried arguments is carried by its word (R88). -/
theorem ofWord_two (op : Opcode) {a b : Arg} (ha : Carried a) (hb : Carried b) :
    Item.ofWord (Record.word ⟨op, .two a b⟩) = .record ⟨op, .two a b⟩ := by
  obtain ⟨h1, h2, h3, h4, h5, h6⟩ := packWord_fields (BitVec.ofNat 5 op.number) a.kind b.kind a.field b.field
  obtain ⟨ho, hn⟩ := opcode_number_field op
  simp only [Record.word]
  unfold Item.ofWord wordWellFormed
  rw [h1, h2, h3, h4, h5, h6, hn, ha, hb]
  have hk := kind_ne_zero a
  have hk' := kind_ne_zero b
  simp only [BitVec.toNat_ofNat] at ho
  simp [ho, hk, hk']

/-- The signed reading of a 16-bit word is in the range of a number argument (R83). -/
theorem number_wellFormed (n : Word) : Arg.wellFormed (.num n.toInt) = true := by
  have h1 := BitVec.le_toInt n
  have h2 := BitVec.toInt_lt (x := n)
  simp only [Arg.wellFormed, Config.minNumber, Config.maxNumber, Bool.and_eq_true, decide_eq_true_eq]
  omega

/-- What a form with one register argument can decode to. -/
theorem oneRegister_eq_ok {n : Nat} {f : Reg → Instr} {i : Instr} (h : oneRegister n f = .ok i) :
    ∃ r, Reg.ofNumber n = some r ∧ f r = i := by
  unfold oneRegister at h
  split at h
  · next r hr => exact ⟨r, hr, by injection h⟩
  · contradiction

/-- What a form with two register arguments can decode to. -/
theorem twoRegisters_eq_ok {n m : Nat} {f : Reg → Reg → Except DecodeReject Instr} {i : Instr}
    (h : twoRegisters n m f = .ok i) : ∃ a b, Reg.ofNumber n = some a ∧ Reg.ofNumber m = some b ∧ f a b = .ok i := by
  unfold twoRegisters at h
  split at h
  · next a b ha hb => exact ⟨a, b, ha, hb, h⟩
  · contradiction
  · contradiction

/-- An execution routine is never entered at micro-address 0 (R100). -/
theorem entry_ne_zero {i : Instr} {z : Bool} {e : MicroAddr} (h : i.entry z = some e) : e ≠ 0 := by
  cases i <;> cases z <;> simp [Instr.entry] at h <;> subst h <;> decide

end Sys2Proof.Laws
end

