-- ==== Sys2Proof/Laws/Memory.lean ====
section
/-! SUPPORT. Data memory as data: reading after writing, and every memory operation keeps the canonical form. -/

namespace Sys2Proof.Machine

@[simp] theorem Memory.read_nil (a : Nat) : Memory.read [] a = 0#16 := rfl

theorem Memory.read_cons (k : Nat) (v : Word) (t : List (Nat × Word)) (a : Nat) :
    Memory.read ((k, v) :: t) a = if a = k then v else Memory.read t a := rfl

theorem Memory.wfFrom_cons {lo k : Nat} {v : Word} {t : List (Nat × Word)} :
    Memory.wfFrom lo ((k, v) :: t) = true ↔ lo ≤ k ∧ k < 1024 ∧ v ≠ 0#16 ∧ Memory.wfFrom (k + 1) t = true := by
  simp [Memory.wfFrom, and_assoc]

/-- A canonical list may be looked at from any lower bound. -/
theorem Memory.wfFrom_mono {lo lo' : Nat} (h : lo' ≤ lo) {m : List (Nat × Word)} (hm : Memory.wfFrom lo m = true) :
    Memory.wfFrom lo' m = true := by
  cases m with
  | nil => rfl
  | cons p t =>
    obtain ⟨k, v⟩ := p
    rw [Memory.wfFrom_cons] at hm ⊢
    exact ⟨h.trans hm.1, hm.2⟩

/-- An address below the lower bound of a canonical list is not listed. -/
theorem Memory.read_below {m : List (Nat × Word)} : ∀ {lo a : Nat}, Memory.wfFrom lo m = true → a < lo →
    Memory.read m a = 0#16 := by
  induction m with
  | nil => intros; rfl
  | cons p t ih =>
    intro lo a hm ha
    obtain ⟨k, v⟩ := p
    rw [Memory.wfFrom_cons] at hm
    rw [Memory.read_cons, if_neg (by omega)]
    exact ih hm.2.2.2 (by omega)

/-- A write keeps the canonical form (20_memory.md R60: addresses 0 to 1023). -/
theorem Memory.write_wfFrom {m : List (Nat × Word)} {a : Nat} {v : Word} (ha : a < 1024) :
    ∀ {lo : Nat}, lo ≤ a → Memory.wfFrom lo m = true → Memory.wfFrom lo (Memory.write m a v) = true := by
  induction m with
  | nil =>
    intro lo hlo _
    by_cases hv : v = 0#16
    · simp [Memory.write, hv, Memory.wfFrom]
    · simp [Memory.write, hv, Memory.wfFrom, hlo, ha]
  | cons p t ih =>
    intro lo hlo hm
    obtain ⟨k, w⟩ := p
    have h := Memory.wfFrom_cons.1 hm
    unfold Memory.write
    split
    · split
      · exact hm
      · rename_i hak hv
        rw [Memory.wfFrom_cons]
        exact ⟨hlo, ha, hv, Memory.wfFrom_cons.2 ⟨by omega, h.2⟩⟩
    · split
      · split
        · exact Memory.wfFrom_mono (by omega) h.2.2.2
        · rename_i _ hak hv
          rw [Memory.wfFrom_cons]
          exact ⟨hlo, ha, hv, hak ▸ h.2.2.2⟩
      · rw [Memory.wfFrom_cons]
        exact ⟨h.1, h.2.1, h.2.2.1, ih (by omega) h.2.2.2⟩

theorem Memory.write_wf {m : List (Nat × Word)} {a : Nat} {v : Word} (ha : a < 1024) (hm : Memory.wf m = true) :
    Memory.wf (Memory.write m a v) = true :=
  Memory.write_wfFrom ha (Nat.zero_le _) hm

/-- A write leaves every other word alone, in any list. -/
theorem Memory.read_write_ne {m : List (Nat × Word)} {a b : Nat} {v : Word} (h : b ≠ a) :
    Memory.read (Memory.write m a v) b = Memory.read m b := by
  induction m with
  | nil =>
    unfold Memory.write
    split <;> simp [Memory.read_cons, h]
  | cons p t ih =>
    obtain ⟨k, w⟩ := p
    unfold Memory.write
    split
    · split
      · rfl
      · rw [Memory.read_cons, if_neg h]
    · split
      · rename_i _ hak
        split
        · rw [Memory.read_cons, if_neg (hak ▸ h)]
        · rw [Memory.read_cons, if_neg h, Memory.read_cons, if_neg (hak ▸ h)]
      · rw [Memory.read_cons, Memory.read_cons, ih]

/-- A read after a write to the same address gives the word written. -/
theorem Memory.read_write_eq {m : List (Nat × Word)} {a : Nat} {v : Word} :
    ∀ {lo : Nat}, Memory.wfFrom lo m = true → Memory.read (Memory.write m a v) a = v := by
  induction m with
  | nil =>
    intro lo _
    unfold Memory.write
    split <;> simp_all [Memory.read_cons]
  | cons p t ih =>
    intro lo hm
    obtain ⟨k, w⟩ := p
    have h := Memory.wfFrom_cons.1 hm
    unfold Memory.write
    split
    · rename_i hak
      split
      · rename_i hv
        rw [Memory.read_cons, if_neg (by omega), Memory.read_below h.2.2.2 (by omega), hv]
      · rw [Memory.read_cons, if_pos rfl]
    · split
      · rename_i hak
        split
        · rename_i hv
          rw [Memory.read_below h.2.2.2 (by omega), hv]
        · rw [Memory.read_cons, if_pos rfl]
      · rename_i hak
        rw [Memory.read_cons, if_neg hak]
        exact ih h.2.2.2

/-- The memory of a data image is canonical (R68). -/
theorem Memory.image_wfFrom (data : List Int) : ∀ k, k + data.length ≤ 1024 → Memory.wfFrom k (Memory.image k data) = true := by
  induction data with
  | nil => intros; rfl
  | cons v t ih =>
    intro k hk
    simp only [List.length_cons] at hk
    have ht := ih (k + 1) (by omega)
    unfold Memory.image
    split
    · exact Memory.wfFrom_mono (Nat.le_succ k) ht
    · rename_i hv
      exact Memory.wfFrom_cons.2 ⟨le_refl k, by omega, hv, ht⟩

/-- `State.reset`'s memory has the canonical form. -/
theorem reset_memWf : State.reset.MemWf := rfl

/-- A launch the loader accepts starts with a canonical memory. -/
theorem load_memWf {l : Launch} {s : State} (h : State.load l = some s) : s.MemWf := by
  unfold State.load at h
  split at h
  · rename_i hl
    cases h
    simp only [launchWellFormed, dataImageWellFormed, Bool.and_eq_true, decide_eq_true_eq] at hl
    exact Memory.image_wfFrom l.data 0 (by simpa using hl.2.1)
  · cases h

end Sys2Proof.Machine
end

