-- ==== Sys2Proof/Laws/Ops.lean ====
section
/-! SUPPORT. One lemma per shared operation that says once what it can do. -/

namespace Sys2Proof.Machine

/-! ## The access primitives -/

theorem addressInRange_iff (a : Word) : addressInRange a = true ↔ 0 ≤ a.toInt ∧ a.toInt < 1024 := by
  simp [addressInRange]

/-- An address in range is its own unsigned reading, below 1024. -/
theorem toNat_lt_of_inRange {a : Word} (h : addressInRange a = true) : a.toNat < 1024 := by
  rw [addressInRange_iff] at h
  have := BitVec.toInt_eq_toNat_cond a
  split at this <;> omega

theorem memRead_eq_some {m : List (Nat × Word)} {a v : Word} :
    memRead m a = some v ↔ addressInRange a = true ∧ v = Memory.read m a.toNat := by
  unfold memRead
  cases addressInRange a <;> simp [eq_comm]

theorem memRead_eq_none {m : List (Nat × Word)} {a : Word} : memRead m a = none ↔ addressInRange a = false := by
  unfold memRead
  cases addressInRange a <;> simp

theorem memWrite_eq_some {m m' : List (Nat × Word)} {a v : Word} :
    memWrite m a v = some m' ↔ addressInRange a = true ∧ m' = Memory.write m a.toNat v := by
  unfold memWrite
  cases addressInRange a <;> simp [eq_comm]

theorem memWrite_eq_none {m : List (Nat × Word)} {a v : Word} : memWrite m a v = none ↔ addressInRange a = false := by
  unfold memWrite
  cases addressInRange a <;> simp

/-- A completed write keeps the canonical form. -/
theorem memWrite_wf {m m' : List (Nat × Word)} {a v : Word} (h : memWrite m a v = some m') (hm : Memory.wf m = true) :
    Memory.wf m' = true := by
  obtain ⟨ha, rfl⟩ := memWrite_eq_some.1 h
  exact Memory.write_wf (toNat_lt_of_inRange ha) hm

/-- A completed write changes the addressed word and no other. -/
theorem memWrite_read {m m' : List (Nat × Word)} {a v : Word} (h : memWrite m a v = some m') (hm : Memory.wf m = true)
    (b : Nat) : Memory.read m' b = if b = a.toNat then v else Memory.read m b := by
  obtain ⟨_, rfl⟩ := memWrite_eq_some.1 h
  split
  · rename_i hb
    rw [hb]
    exact Memory.read_write_eq hm
  · rename_i hb
    exact Memory.read_write_ne hb

/-! ## The devices -/

/-- A peek that answers found a head of code 0 to 127, and answers it. -/
theorem inHead_eq_ok {q : List Nat} {v : Word} (h : inHead q = .ok v) :
    ∃ c t, q = c :: t ∧ c ≤ 127 ∧ v = BitVec.ofNat 16 c := by
  cases q with
  | nil => cases h
  | cons c t =>
    simp only [inHead] at h
    split at h
    · cases h
    · rename_i hc
      cases h
      simp only [Config.minInputCode, Config.maxInputCode] at hc
      refine ⟨c, t, rfl, by omega, ?_⟩
      simp [wrap16]

/-- A completed output appends one code, below 32768. -/
theorem outAppend_eq_ok {out out' : List Nat} {v : Word} (h : outAppend out v = .ok out') :
    0 ≤ v.toInt ∧ out' = out ++ [v.toNat] ∧ v.toNat < 32768 := by
  unfold outAppend at h
  split at h
  · cases h
  · rename_i hv
    cases h
    have := BitVec.toInt_eq_toNat_cond v
    have := v.isLt
    refine ⟨by omega, rfl, ?_⟩
    split at * <;> omega

/-! ## The ALU -/

@[simp] theorem alu_add (a b : Word) : alu .add a b = some (wrap16 (a.toInt + b.toInt)) := rfl
@[simp] theorem alu_sub (a b : Word) : alu .sub a b = some (wrap16 (a.toInt - b.toInt)) := rfl
@[simp] theorem alu_mul (a b : Word) : alu .mul a b = some (wrap16 (a.toInt * b.toInt)) := rfl
@[simp] theorem alu_inc (a b : Word) : alu .inc a b = some (wrap16 (a.toInt + 1)) := rfl
@[simp] theorem alu_dec (a b : Word) : alu .dec a b = some (wrap16 (a.toInt - 1)) := rfl

/-- The operation line: what `operate` answers when it does not raise. -/
theorem operate_eq_ok {s t : State} {op : AluOp} (h : s.operate op = .ok t) :
    ∃ r, alu op s.op1 s.op2 = some r ∧ t = { s with res := r, z := zeroFlag r } := by
  unfold State.operate at h
  split at h
  · rename_i r hr
    cases h
    exact ⟨r, hr, rfl⟩
  · cases h

/-- The operation line: what it raises. -/
theorem operate_eq_error {s : State} {op : AluOp} {c : Condition} (h : s.operate op = .error c) :
    alu op s.op1 s.op2 = none ∧ c = .fatal (.arithmeticError op s.op1) := by
  unfold State.operate at h
  split at h
  · cases h
  · rename_i hr
    cases h
    exact ⟨hr, rfl⟩

/-! ## Instruction memory -/

/-- A location the host places an instruction at reads back, and it is in the program. -/
theorem placeAt_getElem (k : Nat) (item : Item) (m : List Item) : (placeAt k item m)[k]? = some item := by
  induction k generalizing m with
  | zero => cases m <;> rfl
  | succ k ih => cases m <;> simp [placeAt, ih]

end Sys2Proof.Machine
end

