-- ==== Sys2Proof/Laws/PerInstr.lean ====
section
/-! SUPPORT. Facts about every instruction as syntax, one lemma per constructor. -/

namespace Sys2Proof.Laws

/-- The word an instruction is encoded as is well formed and carries the record the instruction stands for (R84, R85, R88), and
the instruction passes its check. -/
def WordForm.Statement (i : Instr) : Prop := Item.ofWord (encode i) = .record i.toRecord ∧ i.wellFormed = true

theorem WordForm.movR1 (n : Word) : WordForm.Statement (.movR1 n) :=
  ⟨ofWord_two _ (carried_reg (n := 1) (by decide)) (carried_num n), number_wellFormed n⟩
theorem WordForm.movR2 (n : Word) : WordForm.Statement (.movR2 n) :=
  ⟨ofWord_two _ (carried_reg (n := 2) (by decide)) (carried_num n), number_wellFormed n⟩
theorem WordForm.movR3 (n : Word) : WordForm.Statement (.movR3 n) :=
  ⟨ofWord_two _ (carried_reg (n := 3) (by decide)) (carried_num n), number_wellFormed n⟩
theorem WordForm.movR1R2 : WordForm.Statement .movR1R2 :=
  ⟨ofWord_two _ (carried_reg (n := 1) (by decide)) (carried_reg (n := 2) (by decide)), rfl⟩
theorem WordForm.movR2R1 : WordForm.Statement .movR2R1 :=
  ⟨ofWord_two _ (carried_reg (n := 2) (by decide)) (carried_reg (n := 1) (by decide)), rfl⟩
theorem WordForm.movR2R3 : WordForm.Statement .movR2R3 :=
  ⟨ofWord_two _ (carried_reg (n := 2) (by decide)) (carried_reg (n := 3) (by decide)), rfl⟩
theorem WordForm.movR3R2 : WordForm.Statement .movR3R2 :=
  ⟨ofWord_two _ (carried_reg (n := 3) (by decide)) (carried_reg (n := 2) (by decide)), rfl⟩
theorem WordForm.movR1R3 : WordForm.Statement .movR1R3 :=
  ⟨ofWord_two _ (carried_reg (n := 1) (by decide)) (carried_reg (n := 3) (by decide)), rfl⟩
theorem WordForm.movR3R1 : WordForm.Statement .movR3R1 :=
  ⟨ofWord_two _ (carried_reg (n := 3) (by decide)) (carried_reg (n := 1) (by decide)), rfl⟩
theorem WordForm.loadR1 (n : Word) : WordForm.Statement (.loadR1 n) :=
  ⟨ofWord_two _ (carried_reg (n := 1) (by decide)) (carried_num n), number_wellFormed n⟩
theorem WordForm.loadR2 (n : Word) : WordForm.Statement (.loadR2 n) :=
  ⟨ofWord_two _ (carried_reg (n := 2) (by decide)) (carried_num n), number_wellFormed n⟩
theorem WordForm.loadR3 (n : Word) : WordForm.Statement (.loadR3 n) :=
  ⟨ofWord_two _ (carried_reg (n := 3) (by decide)) (carried_num n), number_wellFormed n⟩
theorem WordForm.loadR1AtR2 : WordForm.Statement .loadR1AtR2 :=
  ⟨ofWord_two _ (carried_reg (n := 1) (by decide)) (carried_ind (n := 2) (by decide)), rfl⟩
theorem WordForm.loadR1AtR3 : WordForm.Statement .loadR1AtR3 :=
  ⟨ofWord_two _ (carried_reg (n := 1) (by decide)) (carried_ind (n := 3) (by decide)), rfl⟩
theorem WordForm.loadR2AtR1 : WordForm.Statement .loadR2AtR1 :=
  ⟨ofWord_two _ (carried_reg (n := 2) (by decide)) (carried_ind (n := 1) (by decide)), rfl⟩
theorem WordForm.loadR2AtR3 : WordForm.Statement .loadR2AtR3 :=
  ⟨ofWord_two _ (carried_reg (n := 2) (by decide)) (carried_ind (n := 3) (by decide)), rfl⟩
theorem WordForm.loadR3AtR1 : WordForm.Statement .loadR3AtR1 :=
  ⟨ofWord_two _ (carried_reg (n := 3) (by decide)) (carried_ind (n := 1) (by decide)), rfl⟩
theorem WordForm.loadR3AtR2 : WordForm.Statement .loadR3AtR2 :=
  ⟨ofWord_two _ (carried_reg (n := 3) (by decide)) (carried_ind (n := 2) (by decide)), rfl⟩
theorem WordForm.storeR1 (n : Word) : WordForm.Statement (.storeR1 n) :=
  ⟨ofWord_two _ (carried_reg (n := 1) (by decide)) (carried_num n), number_wellFormed n⟩
theorem WordForm.storeR2 (n : Word) : WordForm.Statement (.storeR2 n) :=
  ⟨ofWord_two _ (carried_reg (n := 2) (by decide)) (carried_num n), number_wellFormed n⟩
theorem WordForm.storeR3 (n : Word) : WordForm.Statement (.storeR3 n) :=
  ⟨ofWord_two _ (carried_reg (n := 3) (by decide)) (carried_num n), number_wellFormed n⟩
theorem WordForm.storeR1AtR2 : WordForm.Statement .storeR1AtR2 :=
  ⟨ofWord_two _ (carried_reg (n := 1) (by decide)) (carried_ind (n := 2) (by decide)), rfl⟩
theorem WordForm.storeR1AtR3 : WordForm.Statement .storeR1AtR3 :=
  ⟨ofWord_two _ (carried_reg (n := 1) (by decide)) (carried_ind (n := 3) (by decide)), rfl⟩
theorem WordForm.storeR2AtR1 : WordForm.Statement .storeR2AtR1 :=
  ⟨ofWord_two _ (carried_reg (n := 2) (by decide)) (carried_ind (n := 1) (by decide)), rfl⟩
theorem WordForm.storeR2AtR3 : WordForm.Statement .storeR2AtR3 :=
  ⟨ofWord_two _ (carried_reg (n := 2) (by decide)) (carried_ind (n := 3) (by decide)), rfl⟩
theorem WordForm.storeR3AtR1 : WordForm.Statement .storeR3AtR1 :=
  ⟨ofWord_two _ (carried_reg (n := 3) (by decide)) (carried_ind (n := 1) (by decide)), rfl⟩
theorem WordForm.storeR3AtR2 : WordForm.Statement .storeR3AtR2 :=
  ⟨ofWord_two _ (carried_reg (n := 3) (by decide)) (carried_ind (n := 2) (by decide)), rfl⟩
theorem WordForm.addR1 : WordForm.Statement .addR1 :=
  ⟨ofWord_one _ (carried_reg (n := 1) (by decide)), rfl⟩
theorem WordForm.addR2 : WordForm.Statement .addR2 :=
  ⟨ofWord_one _ (carried_reg (n := 2) (by decide)), rfl⟩
theorem WordForm.addR3 : WordForm.Statement .addR3 :=
  ⟨ofWord_one _ (carried_reg (n := 3) (by decide)), rfl⟩
theorem WordForm.subR1R2 : WordForm.Statement .subR1R2 :=
  ⟨ofWord_two _ (carried_reg (n := 1) (by decide)) (carried_reg (n := 2) (by decide)), rfl⟩
theorem WordForm.subR2R1 : WordForm.Statement .subR2R1 :=
  ⟨ofWord_two _ (carried_reg (n := 2) (by decide)) (carried_reg (n := 1) (by decide)), rfl⟩
theorem WordForm.subR3R1 : WordForm.Statement .subR3R1 :=
  ⟨ofWord_two _ (carried_reg (n := 3) (by decide)) (carried_reg (n := 1) (by decide)), rfl⟩
theorem WordForm.subR1R3 : WordForm.Statement .subR1R3 :=
  ⟨ofWord_two _ (carried_reg (n := 1) (by decide)) (carried_reg (n := 3) (by decide)), rfl⟩
theorem WordForm.subR2R3 : WordForm.Statement .subR2R3 :=
  ⟨ofWord_two _ (carried_reg (n := 2) (by decide)) (carried_reg (n := 3) (by decide)), rfl⟩
theorem WordForm.subR3R2 : WordForm.Statement .subR3R2 :=
  ⟨ofWord_two _ (carried_reg (n := 3) (by decide)) (carried_reg (n := 2) (by decide)), rfl⟩
theorem WordForm.idivR1R2 : WordForm.Statement .idivR1R2 :=
  ⟨ofWord_two _ (carried_reg (n := 1) (by decide)) (carried_reg (n := 2) (by decide)), rfl⟩
theorem WordForm.idivR2R1 : WordForm.Statement .idivR2R1 :=
  ⟨ofWord_two _ (carried_reg (n := 2) (by decide)) (carried_reg (n := 1) (by decide)), rfl⟩
theorem WordForm.idivR3R1 : WordForm.Statement .idivR3R1 :=
  ⟨ofWord_two _ (carried_reg (n := 3) (by decide)) (carried_reg (n := 1) (by decide)), rfl⟩
theorem WordForm.idivR1R3 : WordForm.Statement .idivR1R3 :=
  ⟨ofWord_two _ (carried_reg (n := 1) (by decide)) (carried_reg (n := 3) (by decide)), rfl⟩
theorem WordForm.idivR2R3 : WordForm.Statement .idivR2R3 :=
  ⟨ofWord_two _ (carried_reg (n := 2) (by decide)) (carried_reg (n := 3) (by decide)), rfl⟩
theorem WordForm.idivR3R2 : WordForm.Statement .idivR3R2 :=
  ⟨ofWord_two _ (carried_reg (n := 3) (by decide)) (carried_reg (n := 2) (by decide)), rfl⟩
theorem WordForm.divR1R2 : WordForm.Statement .divR1R2 :=
  ⟨ofWord_two _ (carried_reg (n := 1) (by decide)) (carried_reg (n := 2) (by decide)), rfl⟩
theorem WordForm.divR2R1 : WordForm.Statement .divR2R1 :=
  ⟨ofWord_two _ (carried_reg (n := 2) (by decide)) (carried_reg (n := 1) (by decide)), rfl⟩
theorem WordForm.divR3R1 : WordForm.Statement .divR3R1 :=
  ⟨ofWord_two _ (carried_reg (n := 3) (by decide)) (carried_reg (n := 1) (by decide)), rfl⟩
theorem WordForm.divR1R3 : WordForm.Statement .divR1R3 :=
  ⟨ofWord_two _ (carried_reg (n := 1) (by decide)) (carried_reg (n := 3) (by decide)), rfl⟩
theorem WordForm.divR2R3 : WordForm.Statement .divR2R3 :=
  ⟨ofWord_two _ (carried_reg (n := 2) (by decide)) (carried_reg (n := 3) (by decide)), rfl⟩
theorem WordForm.divR3R2 : WordForm.Statement .divR3R2 :=
  ⟨ofWord_two _ (carried_reg (n := 3) (by decide)) (carried_reg (n := 2) (by decide)), rfl⟩
theorem WordForm.mulR1R2 : WordForm.Statement .mulR1R2 :=
  ⟨ofWord_two _ (carried_reg (n := 1) (by decide)) (carried_reg (n := 2) (by decide)), rfl⟩
theorem WordForm.mulR2R1 : WordForm.Statement .mulR2R1 :=
  ⟨ofWord_two _ (carried_reg (n := 2) (by decide)) (carried_reg (n := 1) (by decide)), rfl⟩
theorem WordForm.mulR3R1 : WordForm.Statement .mulR3R1 :=
  ⟨ofWord_two _ (carried_reg (n := 3) (by decide)) (carried_reg (n := 1) (by decide)), rfl⟩
theorem WordForm.incR1 : WordForm.Statement .incR1 :=
  ⟨ofWord_one _ (carried_reg (n := 1) (by decide)), rfl⟩
theorem WordForm.incR2 : WordForm.Statement .incR2 :=
  ⟨ofWord_one _ (carried_reg (n := 2) (by decide)), rfl⟩
theorem WordForm.incR3 : WordForm.Statement .incR3 :=
  ⟨ofWord_one _ (carried_reg (n := 3) (by decide)), rfl⟩
theorem WordForm.decR1 : WordForm.Statement .decR1 :=
  ⟨ofWord_one _ (carried_reg (n := 1) (by decide)), rfl⟩
theorem WordForm.decR2 : WordForm.Statement .decR2 :=
  ⟨ofWord_one _ (carried_reg (n := 2) (by decide)), rfl⟩
theorem WordForm.decR3 : WordForm.Statement .decR3 :=
  ⟨ofWord_one _ (carried_reg (n := 3) (by decide)), rfl⟩
theorem WordForm.cmpR1 (n : Word) : WordForm.Statement (.cmpR1 n) :=
  ⟨ofWord_two _ (carried_reg (n := 1) (by decide)) (carried_num n), number_wellFormed n⟩
theorem WordForm.cmpR2 (n : Word) : WordForm.Statement (.cmpR2 n) :=
  ⟨ofWord_two _ (carried_reg (n := 2) (by decide)) (carried_num n), number_wellFormed n⟩
theorem WordForm.cmpR3 (n : Word) : WordForm.Statement (.cmpR3 n) :=
  ⟨ofWord_two _ (carried_reg (n := 3) (by decide)) (carried_num n), number_wellFormed n⟩
theorem WordForm.cmpR1R2 : WordForm.Statement .cmpR1R2 :=
  ⟨ofWord_two _ (carried_reg (n := 1) (by decide)) (carried_reg (n := 2) (by decide)), rfl⟩
theorem WordForm.cmpR2R3 : WordForm.Statement .cmpR2R3 :=
  ⟨ofWord_two _ (carried_reg (n := 2) (by decide)) (carried_reg (n := 3) (by decide)), rfl⟩
theorem WordForm.cmpR1R3 : WordForm.Statement .cmpR1R3 :=
  ⟨ofWord_two _ (carried_reg (n := 1) (by decide)) (carried_reg (n := 3) (by decide)), rfl⟩
theorem WordForm.jmp (n : Word) : WordForm.Statement (.jmp n) :=
  ⟨ofWord_one _ (carried_num n), number_wellFormed n⟩
theorem WordForm.jz (n : Word) : WordForm.Statement (.jz n) :=
  ⟨ofWord_one _ (carried_num n), number_wellFormed n⟩
theorem WordForm.jnz (n : Word) : WordForm.Statement (.jnz n) :=
  ⟨ofWord_one _ (carried_num n), number_wellFormed n⟩
theorem WordForm.outR1 : WordForm.Statement .outR1 :=
  ⟨ofWord_one _ (carried_reg (n := 1) (by decide)), rfl⟩
theorem WordForm.outR2 : WordForm.Statement .outR2 :=
  ⟨ofWord_one _ (carried_reg (n := 2) (by decide)), rfl⟩
theorem WordForm.outR3 : WordForm.Statement .outR3 :=
  ⟨ofWord_one _ (carried_reg (n := 3) (by decide)), rfl⟩
theorem WordForm.inR1 : WordForm.Statement .inR1 :=
  ⟨ofWord_one _ (carried_reg (n := 1) (by decide)), rfl⟩
theorem WordForm.inR2 : WordForm.Statement .inR2 :=
  ⟨ofWord_one _ (carried_reg (n := 2) (by decide)), rfl⟩
theorem WordForm.inR3 : WordForm.Statement .inR3 :=
  ⟨ofWord_one _ (carried_reg (n := 3) (by decide)), rfl⟩
theorem WordForm.halt : WordForm.Statement .halt :=
  ⟨ofWord_none _, rfl⟩

end Sys2Proof.Laws
end

