-- ==== Sys2Proof/Laws/Tick.lean ====
section
/-! SUPPORT. What one tick does under each shape of micro-word of 41_control_store.md R191, said once: only the active lines
matter, and each shape has one lemma. -/

namespace Sys2Proof.Machine

/-! ## Only the active lines fire -/

/-- The line is in the micro-word (R180). -/
def MicroWord.active (w : MicroWord) : Line → Bool
  | .fetch => w.fetch
  | .decode => w.decode
  | .latchOr => w.latchOr
  | .selMux2 => w.selMux2.isSome
  | .selMux3 => w.selMux3.isSome
  | .selMux1 => w.selMux1.isSome
  | .selIp => w.selIp.isSome
  | .selMpc => w.selMpc.isSome
  | .latchAr => w.latchAr
  | .memRead => w.memRead
  | .memWrite => w.memWrite
  | .latchDr => w.latchDr
  | .selOp1 => w.selOp1.isSome
  | .selOp2 => w.selOp2.isSome
  | .aluOp => w.aluOp.isSome
  | .latchReg => w.latchReg.isSome
  | .output => w.output
  | .inputAdvance => w.inputAdvance
  | .latchIp => w.latchIp

/-- An inactive line changes nothing (40_alu_lines_tick.md section 3). -/
theorem fireLine_inactive {w : MicroWord} {l : Line} (h : w.active l = false) (s : State) : fireLine w l s = s := by
  cases l <;> simp_all [MicroWord.active, fireLine, strobe, carried]

/-- A state that has raised is left alone by every later line (R163). -/
theorem fireLines_stopped {w : MicroWord} {ls : List Line} {s : State} (h : s.status ≠ .running) : fireLines w ls s = s := by
  cases ls with
  | nil => rfl
  | cons l ls => simp [fireLines, h]

/-- Inactive lines may be left out of the firing order. -/
theorem fireLines_filter (w : MicroWord) (ls : List Line) (s : State) :
    fireLines w ls s = fireLines w (ls.filter w.active) s := by
  induction ls generalizing s with
  | nil => rfl
  | cons l ls ih =>
    by_cases hs : s.status = .running
    · by_cases ha : w.active l = true
      · rw [List.filter_cons_of_pos ha, fireLines, fireLines, if_pos hs, if_pos hs, ih]
      · rw [List.filter_cons_of_neg ha, fireLines, if_pos hs, fireLine_inactive (by simpa using ha), ih]
    · rw [fireLines_stopped hs, fireLines_stopped hs]

/-- A tick's lines under micro-word `w`, when its active lines are known. -/
theorem fireWord_of_active {s : State} {w : MicroWord} (hw : s.mw = w) {ls : List Line}
    (h : firingOrder.filter w.active = ls) : fireWord s = fireLines w ls s := by
  unfold fireWord
  rw [hw, fireLines_filter, h]

/-! ## Ticks -/

/-- A micro-word without `DECODE` never finds an empty `IR` in its way. -/
theorem tick_of_running {s : State} (h : s.status = .running) (hd : s.mw.decode = false) : tick s = .next s.ticked := by
  unfold tick State.decodesNothing
  rw [if_pos h, hd]
  rfl

/-- Micro-word 1 needs an instruction in `IR`. -/
theorem tick_of_ir {s : State} (h : s.status = .running) {item : Item} (hi : s.ir = some item) : tick s = .next s.ticked := by
  unfold tick State.decodesNothing
  rw [if_pos h, hi]
  simp

theorem tick_of_stopped {s : State} (h : s.status ≠ .running) : tick s = .next s := by
  unfold tick
  rw [if_neg h]

/-- Steps 4 and 5 follow when no line raised. -/
theorem ticked_of_running {s t : State} (h : fireWord s = t) (ht : t.status = .running) : s.ticked = latchNext t := by
  unfold State.ticked
  simp [h, ht]

/-- A tick ends at the line that raised. -/
theorem ticked_of_raised {s t : State} (h : fireWord s = t) (ht : t.status ≠ .running) : s.ticked = t := by
  unfold State.ticked
  simp [h, ht]

/-- Step 5 after `SEL_MPC=INCREMENT`, inside the control store. -/
theorem latchNext_increment {s : State} (h : s.mpcSel = .increment) (hm : s.mpc.val + 1 < 127) :
    latchNext s = s.goTo (s.mpc + 1) := by
  unfold latchNext
  simp only [h]
  rw [dif_pos hm]
  congr 1
  apply Fin.ext
  simp only [Fin.val_add]
  show s.mpc.val + 1 = (s.mpc.val + 1) % 127
  omega

theorem latchNext_null {s : State} (h : s.mpcSel = .null) : latchNext s = s.goTo 0 := by
  unfold latchNext
  simp only [h]

theorem latchNext_next {s : State} (h : s.mpcSel = .next) : latchNext s = s.goTo s.decEntry := by
  unfold latchNext
  simp only [h]

/-- A completed tick that selects INCREMENT. -/
theorem ticked_increment {s t : State} (hf : fireWord s = t) (ht : t.status = .running) (hs : t.mpcSel = .increment)
    (hm : t.mpc.val + 1 < 127) : s.ticked = t.goTo (t.mpc + 1) := by
  rw [ticked_of_running hf ht, latchNext_increment hs hm]

/-- A completed tick that selects NULL. -/
theorem ticked_null {s t : State} (hf : fireWord s = t) (ht : t.status = .running) (hs : t.mpcSel = .null) :
    s.ticked = t.goTo 0 := by
  rw [ticked_of_running hf ht, latchNext_null hs]

/-- A completed tick that selects NEXT. -/
theorem ticked_next {s t : State} (hf : fireWord s = t) (ht : t.status = .running) (hs : t.mpcSel = .next) :
    s.ticked = t.goTo t.decEntry := by
  rw [ticked_of_running hf ht, latchNext_next hs]

theorem raise_stops (s : State) (c : Condition) : (s.raise c).status ≠ .running := by
  cases c <;> simp [Condition.status]

/-! ## The micro-words of R191, shape by shape -/

/-- Micro-word 0 where `pc` addresses an instruction (41_control_store.md R188). -/
theorem ticked_fetch {s : State} (h : s.status = .running) (hw : s.mw = cs 0) (hm : s.mpc = 0) {item : Item}
    (hi : imemRead s.imem s.pc = some item) : s.ticked = s.fetched item := by
  have hf : fireWord s = { s with ir := some item, mpcSel := .increment } := by
    rw [fireWord_of_active hw (ls := [.fetch, .selMpc]) (by decide)]
    simp [fireLines, fireLine, strobe, carried, fireFetch, hi, h, show (cs 0).fetch = true from rfl,
      show (cs 0).selMpc = some .increment from rfl]
  rw [ticked_increment hf h rfl (by simp [hm])]
  simp [State.fetched, hm]

/-- Micro-word 0 where `pc` is outside the program (R66, R277). -/
theorem ticked_fetch_outside {s : State} (h : s.status = .running) (hw : s.mw = cs 0)
    (hi : imemRead s.imem s.pc = none) : s.ticked = s.raise (.fatal (.instructionBoundsError s.pc)) := by
  refine ticked_of_raised ?_ (raise_stops _ _)
  rw [fireWord_of_active hw (ls := [.fetch, .selMpc]) (by decide)]
  simp [fireLines, fireLine, strobe, fireFetch, hi, h, show (cs 0).fetch = true from rfl, Condition.status]

/-- Micro-word 1 on an instruction that decodes (R158, R189). -/
theorem ticked_decode {s : State} (h : s.status = .running) (hw : s.mw = cs 1) {item : Item} (hi : s.ir = some item)
    {a : MicroAddr} (hr : resolve item s.z = .ok a) : s.ticked = s.dispatch item.lastNumber a := by
  have hf : fireWord s = { s.takeOperand item.lastNumber with
      decEntry := a, orReg := (s.takeOperand item.lastNumber).decOperand, mpcSel := .next } := by
    rw [fireWord_of_active hw (ls := [.decode, .latchOr, .selMpc]) (by decide)]
    simp [fireLines, fireLine, strobe, carried, fireDecode, fireLatchOr, State.orRaise, hi, hr, h,
      show (cs 1).decode = true from rfl, show (cs 1).latchOr = true from rfl,
      show (cs 1).selMpc = some .next from rfl]
  rw [ticked_next hf h rfl]
  rfl

/-- Micro-word 1 where decoding raises: the operand has been extracted and nothing else has happened (R158). -/
theorem ticked_decode_raises {s : State} (h : s.status = .running) (hw : s.mw = cs 1) {item : Item} (hi : s.ir = some item)
    {c : Condition} (hr : resolve item s.z = .error c) : s.ticked = (s.takeOperand item.lastNumber).raise c := by
  refine ticked_of_raised ?_ (raise_stops _ _)
  rw [fireWord_of_active hw (ls := [.decode, .latchOr, .selMpc]) (by decide)]
  have hc := raise_stops (s.takeOperand item.lastNumber) c
  simp [fireLines, fireLine, strobe, fireDecode, State.orRaise, hi, hr, h, show (cs 1).decode = true from rfl] at hc ⊢
  simp [hc]

/-- The value the source of a `LATCH_REG` presents, for the sources that cannot raise. -/
def State.latchSource (s : State) : Mux1Sel → Word
  | .alu => s.res
  | .or => s.orReg
  | .dr => s.dr
  | .mux2 => s.mux2
  | .input => 0

/-- The last micro-word of a register-writing routine: `SEL_MUX1=m, LATCH_REG=r, END`. -/
theorem ticked_latchEnd {s : State} (h : s.status = .running) {m1 : Mux1Sel} (hm : m1 ≠ .input) {r : LatchSel}
    (hw : s.mw = { selMux1 := some m1, selIp := some .inc, selMpc := some .null, latchReg := some r, latchIp := true }) :
    s.ticked = ({ s with mux1Sel := m1 }.setReg r.reg (s.latchSource m1)).retire .inc := by
  have hf : fireWord s = { ({ s with mux1Sel := m1, ipSel := .inc, mpcSel := .null }).setReg r.reg (s.latchSource m1) with
      pc := s.nextPc .inc } := by
    rw [fireWord_of_active hw (ls := [.selMux1, .selIp, .selMpc, .latchReg, .latchIp]) (by cases m1 <;> cases r <;> rfl)]
    cases m1 <;> first | exact absurd rfl hm | (cases r <;>
      simp [fireLines, fireLine, strobe, carried, fireLatchReg, fireLatchIp, State.mux1, State.orRaise, h,
        State.latchSource, State.nextPc, State.mux2, State.reg, State.setReg, LatchSel.reg])
  rw [ticked_null hf (by simp [h]) (by simp)]
  cases r <;> simp [State.retire, State.setReg, LatchSel.reg, State.nextPc]

/-- `MOV Rd,Rs`: `SEL_MUX2=m, SEL_MUX1=MUX2, LATCH_REG=r, END`. -/
theorem ticked_copyEnd {s : State} (h : s.status = .running) {m2 : Mux2Sel} {r : LatchSel}
    (hw : s.mw = { selMux2 := some m2, selMux1 := some .mux2, selIp := some .inc, selMpc := some .null,
                   latchReg := some r, latchIp := true }) :
    s.ticked = ({ s with mux2Sel := m2, mux1Sel := .mux2 }.setReg r.reg (s.reg m2.reg)).retire .inc := by
  have hf : fireWord s = { ({ s with mux2Sel := m2, mux1Sel := .mux2, ipSel := .inc, mpcSel := .null }).setReg r.reg
      (s.reg m2.reg) with pc := s.nextPc .inc } := by
    rw [fireWord_of_active hw (ls := [.selMux2, .selMux1, .selIp, .selMpc, .latchReg, .latchIp])
      (by cases m2 <;> cases r <;> rfl)]
    cases m2 <;> cases r <;>
      simp [fireLines, fireLine, strobe, carried, fireLatchReg, fireLatchIp, State.mux1, State.orRaise, h,
        State.nextPc, State.mux2, State.reg, State.setReg, LatchSel.reg, Mux2Sel.reg]
  rw [ticked_null hf (by simp [h]) (by simp)]
  cases r <;> simp [State.retire, State.setReg, LatchSel.reg, State.nextPc]

/-- An address micro-word: `SEL_MUX2=m, SEL_MUX3=a, SEL_MPC=INCREMENT, LATCH_AR`. -/
theorem ticked_address {s : State} (h : s.status = .running) (hm : s.mpc.val + 1 < 127) {m2 : Mux2Sel} {m3 : Mux3Sel}
    (hw : s.mw = { selMux2 := some m2, selMux3 := some m3, selMpc := some .increment, latchAr := true }) :
    s.ticked = ({ s with mux2Sel := m2, mux3Sel := m3, ar := ({ s with mux2Sel := m2, mux3Sel := m3 } : State).mux3 } : State).nextWord := by
  have hf : fireWord s = { s with mux2Sel := m2, mux3Sel := m3, mpcSel := .increment, ar := ({ s with mux2Sel := m2, mux3Sel := m3 } : State).mux3 } := by
    rw [fireWord_of_active hw (ls := [.selMux2, .selMux3, .selMpc, .latchAr]) (by cases m2 <;> cases m3 <;> rfl)]
    cases m3 <;> cases m2 <;>
      simp [fireLines, fireLine, strobe, carried, fireLatchAr, State.mux3, State.mux2, h, State.reg, Mux2Sel.reg]
  rw [ticked_increment hf h rfl hm]
  rfl

/-- What a read micro-word does once the address stands in `AR` and INCREMENT is selected: `MEM_READ, LATCH_DR`. -/
def State.readTick (s : State) : State :=
  match memRead s.mem s.ar with
  | some v => { s with mo := v, dr := v }.nextWord
  | none => s.raise (.fatal (.memoryBoundsError s.ar))

/-- `SEL_MPC=INCREMENT, MEM_READ, LATCH_DR`: the second micro-word of an indirect LOAD. -/
theorem ticked_read {s : State} (h : s.status = .running) (hm : s.mpc.val + 1 < 127)
    (hw : s.mw = { selMpc := some .increment, memRead := true, latchDr := true }) :
    s.ticked = State.readTick { s with mpcSel := .increment } := by
  have hfw := fireWord_of_active hw (ls := [.selMpc, .memRead, .latchDr]) (by rfl)
  unfold State.readTick
  cases hv : memRead s.mem s.ar with
  | some v =>
    have hf : fireWord s = { s with mpcSel := .increment, mo := v, dr := v } := by
      rw [hfw]
      simp [fireLines, fireLine, strobe, carried, fireMemRead, fireLatchDr, hv, h]
    rw [ticked_increment hf h rfl hm]
    rfl
  | none =>
    refine ticked_of_raised ?_ (raise_stops _ _)
    rw [hfw]
    simp [fireLines, fireLine, strobe, carried, fireMemRead, hv, h, Condition.status]

/-- `SEL_MUX3=OPERAND, SEL_MPC=INCREMENT, LATCH_AR, MEM_READ, LATCH_DR`: the first micro-word of a direct LOAD. -/
theorem ticked_addressRead {s : State} (h : s.status = .running) (hm : s.mpc.val + 1 < 127)
    (hw : s.mw = { selMux3 := some .operand, selMpc := some .increment, latchAr := true, memRead := true, latchDr := true }) :
    s.ticked = State.readTick { s with mux3Sel := .operand, mpcSel := .increment, ar := s.decOperand } := by
  have hfw := fireWord_of_active hw (ls := [.selMux3, .selMpc, .latchAr, .memRead, .latchDr]) (by rfl)
  unfold State.readTick
  cases hv : memRead s.mem s.decOperand with
  | some v =>
    have hf : fireWord s = { s with mux3Sel := .operand, mpcSel := .increment, ar := s.decOperand, mo := v, dr := v } := by
      rw [hfw]
      simp [fireLines, fireLine, strobe, carried, fireMemRead, fireLatchDr, fireLatchAr, State.mux3, hv, h]
    rw [ticked_increment hf h rfl hm]
    rfl
  | none =>
    refine ticked_of_raised ?_ (raise_stops _ _)
    rw [hfw]
    simp [fireLines, fireLine, strobe, carried, fireMemRead, fireLatchAr, State.mux3, hv, h, Condition.status]

/-- What the last micro-word of a STORE does once mux2 selects the data: `MEM_WRITE, END`. -/
def State.writeTick (s : State) : State :=
  match memWrite s.mem s.ar s.mux2 with
  | some m => { s with mem := m }.retire .inc
  | none => s.selectEnd.raise (.fatal (.memoryBoundsError s.ar))

/-- `[SEL_MUX2=m,] SEL_IP=INC, SEL_MPC=NULL, MEM_WRITE, LATCH_IP`. -/
theorem ticked_write {s : State} (h : s.status = .running) {m2 : Option Mux2Sel}
    (hw : s.mw = { selMux2 := m2, selIp := some .inc, selMpc := some .null, memWrite := true, latchIp := true }) :
    s.ticked = State.writeTick { s with mux2Sel := m2.getD s.mux2Sel } := by
  have hfw : fireWord s = fireLines { selIp := some .inc, selMpc := some .null, memWrite := true, latchIp := true }
      [.selIp, .selMpc, .memWrite, .latchIp] { s with mux2Sel := m2.getD s.mux2Sel } := by
    cases m2 with
    | none => rw [fireWord_of_active hw (ls := [.selIp, .selMpc, .memWrite, .latchIp]) (by rfl)]; rfl
    | some m =>
      rw [fireWord_of_active hw (ls := [.selMux2, .selIp, .selMpc, .memWrite, .latchIp]) (by rfl), fireLines, if_pos h]
      rfl
  unfold State.writeTick
  cases hv : memWrite s.mem s.ar ({ s with mux2Sel := m2.getD s.mux2Sel }).mux2 with
  | some m =>
    have hf : fireWord s = { s with
        mux2Sel := m2.getD s.mux2Sel, ipSel := .inc, mpcSel := .null, mem := m, pc := s.nextPc .inc } := by
      rw [hfw]
      simp only [State.mux2] at hv
      simp [fireLines, fireLine, strobe, carried, fireMemWrite, fireLatchIp, State.mux2, State.reg, State.nextPc, h] at hv ⊢
      simp [hv]
    rw [ticked_null hf h rfl]
    rfl
  | none =>
    refine ticked_of_raised ?_ (raise_stops _ _)
    rw [hfw]
    simp only [State.mux2] at hv
    simp [fireLines, fireLine, strobe, carried, fireMemWrite, State.mux2, State.reg, h] at hv ⊢
    simp [hv, State.raise, State.selectEnd, Condition.status]

/-- The first micro-word of an arithmetic routine: `SEL_OP1=a, [SEL_OP2=b,] ALU_OP=op, SEL_MPC=INCREMENT`. -/
theorem ticked_alu {s : State} (h : s.status = .running) (hm : s.mpc.val + 1 < 127) {a : Op1Sel} {b : Option Op2Sel}
    {op : AluOp} (hw : s.mw = { selMpc := some .increment, selOp1 := some a, selOp2 := b, aluOp := some op }) :
    s.ticked = match ({ s with mpcSel := .increment, op1 := s.reg a.reg, op2 := (b.map s.op2Source).getD s.op2 }).operate op with
      | .ok t => t.nextWord
      | .error c => ({ s with mpcSel := .increment, op1 := s.reg a.reg, op2 := (b.map s.op2Source).getD s.op2 }).raise c := by
  have hfw : fireWord s = fireLines { aluOp := some op } [.aluOp]
      { s with mpcSel := .increment, op1 := s.reg a.reg, op2 := (b.map s.op2Source).getD s.op2 } := by
    cases b with
    | none =>
      rw [fireWord_of_active hw (ls := [.selMpc, .selOp1, .aluOp]) (by cases a <;> cases op <;> rfl)]
      cases a <;> simp [fireLines, fireLine, carried, h, State.reg, Op1Sel.reg]
    | some b =>
      rw [fireWord_of_active hw (ls := [.selMpc, .selOp1, .selOp2, .aluOp]) (by cases a <;> cases b <;> cases op <;> rfl)]
      cases a <;> cases b <;> simp [fireLines, fireLine, carried, h, State.reg, Op1Sel.reg, State.op2Source]
  generalize hs' : ({ s with mpcSel := .increment, op1 := s.reg a.reg, op2 := (b.map s.op2Source).getD s.op2 } : State) = s' at *
  have hr : s'.status = .running := by rw [← hs']; exact h
  cases ho : s'.operate op with
  | ok t =>
    have hf : fireWord s = t := by
      rw [hfw]
      simp [fireLines, fireLine, carried, fireAluOp, State.orRaise, hr, ho]
    obtain ⟨r, _, rfl⟩ := operate_eq_ok ho
    rw [ticked_increment hf hr (by rw [← hs']) (by rw [← hs']; exact hm)]
    show _ = State.nextWord _
    rw [← hs']
    rfl
  | error c =>
    refine ticked_of_raised ?_ (raise_stops _ _)
    rw [hfw]
    simp [fireLines, fireLine, carried, fireAluOp, State.orRaise, hr, ho]

/-- The micro-word of a CMP: `SEL_OP1=a, SEL_OP2=b, ALU_OP=SUB, END`. -/
theorem ticked_compare {s : State} (h : s.status = .running) {a : Op1Sel} {b : Op2Sel}
    (hw : s.mw = { selIp := some .inc, selMpc := some .null, selOp1 := some a, selOp2 := some b, aluOp := some .sub,
                   latchIp := true }) :
    .next s.ticked = compareFinish (s.reg a.reg) (s.op2Source b) s := by
  have hf : fireWord s = { s with
      ipSel := .inc, mpcSel := .null, op1 := s.reg a.reg, op2 := s.op2Source b,
      res := wrap16 ((s.reg a.reg).toInt - (s.op2Source b).toInt),
      z := zeroFlag (wrap16 ((s.reg a.reg).toInt - (s.op2Source b).toInt)), pc := s.nextPc .inc } := by
    rw [fireWord_of_active hw (ls := [.selIp, .selMpc, .selOp1, .selOp2, .aluOp, .latchIp])
      (by cases a <;> cases b <;> rfl)]
    cases a <;> cases b <;>
      simp [fireLines, fireLine, strobe, carried, fireAluOp, fireLatchIp, State.orRaise, State.operate, h, State.reg,
        Op1Sel.reg, State.op2Source, State.nextPc]
  rw [ticked_null hf h rfl]
  simp [compareFinish, State.operate, State.retire, State.nextPc, State.selectEnd]

/-- The branch micro-words 86 and 93: `SEL_IP=i, SEL_MPC=NULL, LATCH_IP`. -/
theorem ticked_branch {s : State} (h : s.status = .running) {i : IpSel}
    (hw : s.mw = { selIp := some i, selMpc := some .null, latchIp := true }) : s.ticked = s.retire i := by
  have hf : fireWord s = { s with ipSel := i, mpcSel := .null, pc := s.nextPc i } := by
    rw [fireWord_of_active hw (ls := [.selIp, .selMpc, .latchIp]) (by cases i <;> rfl)]
    cases i <;> simp [fireLines, fireLine, strobe, carried, fireLatchIp, h, State.nextPc]
  rw [ticked_null hf h rfl]
  rfl

/-- `SEL_MUX2=m, OUTPUT, END`. -/
theorem ticked_output {s : State} (h : s.status = .running) {m2 : Mux2Sel}
    (hw : s.mw = { selMux2 := some m2, selIp := some .inc, selMpc := some .null, output := true, latchIp := true }) :
    s.ticked = match outAppend s.out (s.reg m2.reg) with
      | .ok o => { s with mux2Sel := m2, out := o }.retire .inc
      | .error c => { s.selectEnd with mux2Sel := m2 }.raise c := by
  have hfw := fireWord_of_active hw (ls := [.selMux2, .selIp, .selMpc, .output, .latchIp]) (by cases m2 <;> rfl)
  cases ho : outAppend s.out (s.reg m2.reg) with
  | ok o =>
    have hf : fireWord s = { s with mux2Sel := m2, ipSel := .inc, mpcSel := .null, out := o, pc := s.nextPc .inc } := by
      rw [hfw]
      cases m2 <;> simp only [State.reg, Mux2Sel.reg] at ho <;>
        simp [fireLines, fireLine, strobe, carried, fireOutput, fireLatchIp, State.orRaise, State.mux2, State.reg, Mux2Sel.reg,
          ho, h, State.nextPc]
    rw [ticked_null hf h rfl]
    rfl
  | error c =>
    refine ticked_of_raised ?_ (raise_stops _ _)
    rw [hfw]
    have hc := raise_stops s c
    simp only [raise_status] at hc
    cases m2 <;> simp only [State.reg, Mux2Sel.reg] at ho <;>
      simp [fireLines, fireLine, strobe, carried, fireOutput, State.orRaise, State.mux2, State.reg, Mux2Sel.reg, ho, h, hc,
        State.raise, State.selectEnd]

/-- `SEL_MUX1=INPUT, LATCH_REG=r, INPUT_ADVANCE, END`. -/
theorem ticked_input {s : State} (h : s.status = .running) {r : LatchSel}
    (hw : s.mw = { selMux1 := some .input, selIp := some .inc, selMpc := some .null, latchReg := some r,
                   inputAdvance := true, latchIp := true }) :
    s.ticked = match inHead s.inQ with
      | .error c => { s.selectEnd with mux1Sel := .input }.raise c
      | .ok v => match inPop s.inQ with
        | .ok q => { ({ s with mux1Sel := .input }).setReg r.reg v with inQ := q }.retire .inc
        | .error c => (({ s.selectEnd with mux1Sel := .input }).setReg r.reg v).raise c := by
  have hfw := fireWord_of_active hw (ls := [.selMux1, .selIp, .selMpc, .latchReg, .inputAdvance, .latchIp])
    (by cases r <;> rfl)
  cases hh : inHead s.inQ with
  | error c =>
    refine ticked_of_raised ?_ (raise_stops _ _)
    rw [hfw]
    have hc := raise_stops s c
    simp only [raise_status] at hc
    simp [fireLines, fireLine, carried, fireLatchReg, State.mux1, State.orRaise, hh, h, hc, State.raise,
      State.selectEnd]
  | ok v =>
    obtain ⟨c, t, hq, _, _⟩ := inHead_eq_ok hh
    have hp : inPop s.inQ = .ok t := by rw [hq]; rfl
    have hf : fireWord s = { ({ s with mux1Sel := .input, ipSel := .inc, mpcSel := .null }).setReg r.reg v with
        inQ := t, pc := s.nextPc .inc } := by
      rw [hfw]
      cases r <;>
        simp [fireLines, fireLine, strobe, carried, fireLatchReg, fireInputAdvance, fireLatchIp, State.mux1, State.orRaise,
          hh, hp, h, LatchSel.reg, State.setReg, State.nextPc]
    rw [ticked_null hf (by simp [h]) (by simp), hp]
    cases r <;> rfl

end Sys2Proof.Machine
end

