-- ==== Sys2Proof/Tests/Slice0.lean ====
section
/-! SUPPORT. The author's own tests: ill-formed terms refused, words written out from the spec's encoding tables decoded, the hex
column of the control store, single steps against the vectors of 95_test_vectors.md, and a witness for the hypotheses of each
obligation. -/

namespace Sys2Proof.Tests

open Sys2Proof Sys2Proof.Machine

/-! ## Well-formedness: each check refuses an ill-formed term and takes a term at the edge -/

/-- A number argument above 65535 is refused (R83). -/
theorem test_number_too_large : Arg.wellFormed (.num 65536) = false ∧ Arg.wellFormed (.num 65535) = true := by decide

/-- A number argument below -32768 is refused (R83). -/
theorem test_number_too_small : Arg.wellFormed (.num (-32769)) = false ∧ Arg.wellFormed (.num (-32768)) = true := by decide

/-- One bad argument makes the record ill formed (R302). -/
theorem test_record_with_bad_second_number : Record.wellFormed ⟨.mov, .two (.reg 1) (.num 65536)⟩ = false := by decide

/-- A data element outside -32768 to 65535 is refused (R68). -/
theorem test_data_element_too_large : dataWellFormed 65536 = false ∧ dataWellFormed (-32769) = false := by decide

/-- A data image of 1025 words is refused (R68). -/
theorem test_data_image_too_long :
    dataImageWellFormed (List.replicate 1025 0) = false := by
  simp only [dataImageWellFormed, List.length_replicate]
  rfl

/-- A launch with a number out of range is refused (R302). -/
theorem test_launch_with_bad_number : State.load ⟨[.record ⟨.jmp, .one (.num 70000)⟩], [], []⟩ = none := by decide

/-- A launch with a data element out of range is refused (R302). -/
theorem test_launch_with_bad_data : State.load ⟨[], [1, 70000], []⟩ = none := by decide

/-- A text of 32769 instructions is refused (R302). -/
theorem test_launch_text_too_long :
    launchWellFormed ⟨List.replicate 32769 (.malformed 0x700100000000#48), [], []⟩ = false := by
  simp only [launchWellFormed, List.length_replicate]
  rw [show decide (32769 ≤ Config.maxText) = false from by decide, Bool.and_false, Bool.false_and]

/-- A well-formed word is a record, not a malformed word (R88). -/
theorem test_launch_malformed_must_be_malformed :
    launchWellFormed ⟨[.malformed 0x700000000000#48], [], []⟩ = false := by decide

/-- Opcode number 17 (R86, R88). -/
theorem test_word_bad_opcode : wordWellFormed 0x880000000000#48 = false := by decide

/-- The `zero` field not 0 (R88). -/
theorem test_word_zero_field : wordWellFormed 0x700100000000#48 = false := by decide

/-- A value for an absent kind, first and second argument (R88). -/
theorem test_word_value_without_kind :
    wordWellFormed 0x700000010000#48 = false ∧ wordWellFormed 0x1A0000010001#48 = false := by decide

/-- A second argument without a first (R88). -/
theorem test_word_second_without_first : wordWellFormed 0x708000000001#48 = false := by decide

/-- Reserved bit, and reserved codes of SEL_MUX3, SEL_MUX1, SEL_IP, SEL_OP2 (R181, R182). -/
theorem test_micro_word_reserved :
    decodeMicro 0xC0020000#32 = none ∧ decodeMicro 0x03020000#32 = none ∧ decodeMicro 0x00C20000#32 = none ∧
    decodeMicro 0x001A0000#32 = none ∧ decodeMicro 0x00020500#32 = none := by decide

/-! ## Decoding: words written out from the encoding tables (30_encoding.md R85 to R87, R100; 95_test_vectors.md 2.1) -/

/-- Every form of MOV, its word packed from opcode 0, the kinds of its format and its values. -/
theorem test_decode_mov :
    decode 0x030000010048#48 = .ok (.movR1 0x0048) ∧ decode 0x03000002FFFF#48 = .ok (.movR2 0xFFFF) ∧
    decode 0x030000038000#48 = .ok (.movR3 0x8000) ∧ decode 0x028000010002#48 = .ok .movR1R2 ∧
    decode 0x028000020001#48 = .ok .movR2R1 ∧ decode 0x028000020003#48 = .ok .movR2R3 ∧
    decode 0x028000030002#48 = .ok .movR3R2 ∧ decode 0x028000010003#48 = .ok .movR1R3 ∧
    decode 0x028000030001#48 = .ok .movR3R1 := by decide

/-- Every form of LOAD, its word packed from opcode 1, the kinds of its format and its values. -/
theorem test_decode_load :
    decode 0x0B0000010005#48 = .ok (.loadR1 0x0005) ∧ decode 0x0B00000203FF#48 = .ok (.loadR2 0x03FF) ∧
    decode 0x0B0000030400#48 = .ok (.loadR3 0x0400) ∧ decode 0x0B8000010002#48 = .ok .loadR1AtR2 ∧
    decode 0x0B8000010003#48 = .ok .loadR1AtR3 ∧ decode 0x0B8000020001#48 = .ok .loadR2AtR1 ∧
    decode 0x0B8000020003#48 = .ok .loadR2AtR3 ∧ decode 0x0B8000030001#48 = .ok .loadR3AtR1 ∧
    decode 0x0B8000030002#48 = .ok .loadR3AtR2 := by decide

/-- Every form of STORE, its word packed from opcode 2, the kinds of its format and its values. -/
theorem test_decode_store :
    decode 0x13000001000A#48 = .ok (.storeR1 0x000A) ∧ decode 0x1300000203FF#48 = .ok (.storeR2 0x03FF) ∧
    decode 0x13000003FFFF#48 = .ok (.storeR3 0xFFFF) ∧ decode 0x138000010002#48 = .ok .storeR1AtR2 ∧
    decode 0x138000010003#48 = .ok .storeR1AtR3 ∧ decode 0x138000020001#48 = .ok .storeR2AtR1 ∧
    decode 0x138000020003#48 = .ok .storeR2AtR3 ∧ decode 0x138000030001#48 = .ok .storeR3AtR1 ∧
    decode 0x138000030002#48 = .ok .storeR3AtR2 := by decide

/-- Every form of ADD, its word packed from opcode 3, the kinds of its format and its values. -/
theorem test_decode_add :
    decode 0x1A0000010000#48 = .ok .addR1 ∧ decode 0x1A0000020000#48 = .ok .addR2 ∧
    decode 0x1A0000030000#48 = .ok .addR3 := by decide

/-- Every form of SUB, its word packed from opcode 4, the kinds of its format and its values. -/
theorem test_decode_sub :
    decode 0x228000010002#48 = .ok .subR1R2 ∧ decode 0x228000020001#48 = .ok .subR2R1 ∧
    decode 0x228000030001#48 = .ok .subR3R1 ∧ decode 0x228000010003#48 = .ok .subR1R3 ∧
    decode 0x228000020003#48 = .ok .subR2R3 ∧ decode 0x228000030002#48 = .ok .subR3R2 := by decide

/-- Every form of IDIV, its word packed from opcode 5, the kinds of its format and its values. -/
theorem test_decode_idiv :
    decode 0x2A8000010002#48 = .ok .idivR1R2 ∧ decode 0x2A8000020001#48 = .ok .idivR2R1 ∧
    decode 0x2A8000030001#48 = .ok .idivR3R1 ∧ decode 0x2A8000010003#48 = .ok .idivR1R3 ∧
    decode 0x2A8000020003#48 = .ok .idivR2R3 ∧ decode 0x2A8000030002#48 = .ok .idivR3R2 := by decide

/-- Every form of DIV, its word packed from opcode 6, the kinds of its format and its values. -/
theorem test_decode_div :
    decode 0x328000010002#48 = .ok .divR1R2 ∧ decode 0x328000020001#48 = .ok .divR2R1 ∧
    decode 0x328000030001#48 = .ok .divR3R1 ∧ decode 0x328000010003#48 = .ok .divR1R3 ∧
    decode 0x328000020003#48 = .ok .divR2R3 ∧ decode 0x328000030002#48 = .ok .divR3R2 := by decide

/-- Every form of MUL, its word packed from opcode 7, the kinds of its format and its values. -/
theorem test_decode_mul :
    decode 0x3A8000010002#48 = .ok .mulR1R2 ∧ decode 0x3A8000020001#48 = .ok .mulR2R1 ∧
    decode 0x3A8000030001#48 = .ok .mulR3R1 := by decide

/-- Every form of INC, its word packed from opcode 8, the kinds of its format and its values. -/
theorem test_decode_inc :
    decode 0x420000010000#48 = .ok .incR1 ∧ decode 0x420000020000#48 = .ok .incR2 ∧
    decode 0x420000030000#48 = .ok .incR3 := by decide

/-- Every form of DEC, its word packed from opcode 9, the kinds of its format and its values. -/
theorem test_decode_dec :
    decode 0x4A0000010000#48 = .ok .decR1 ∧ decode 0x4A0000020000#48 = .ok .decR2 ∧
    decode 0x4A0000030000#48 = .ok .decR3 := by decide

/-- Every form of CMP, its word packed from opcode 10, the kinds of its format and its values. -/
theorem test_decode_cmp :
    decode 0x530000010000#48 = .ok (.cmpR1 0x0000) ∧ decode 0x53000002FFFF#48 = .ok (.cmpR2 0xFFFF) ∧
    decode 0x53000003000A#48 = .ok (.cmpR3 0x000A) ∧ decode 0x528000010002#48 = .ok .cmpR1R2 ∧
    decode 0x528000020003#48 = .ok .cmpR2R3 ∧ decode 0x528000010003#48 = .ok .cmpR1R3 := by decide

/-- Every form of JMP, its word packed from opcode 11, the kinds of its format and its values. -/
theorem test_decode_jmp : decode 0x5C0000050000#48 = .ok (.jmp 0x0005) := by decide

/-- Every form of JZ, its word packed from opcode 12, the kinds of its format and its values. -/
theorem test_decode_jz : decode 0x640000070000#48 = .ok (.jz 0x0007) := by decide

/-- Every form of JNZ, its word packed from opcode 13, the kinds of its format and its values. -/
theorem test_decode_jnz : decode 0x6C0000030000#48 = .ok (.jnz 0x0003) := by decide

/-- Every form of OUT, its word packed from opcode 15, the kinds of its format and its values. -/
theorem test_decode_out :
    decode 0x7A0000010000#48 = .ok .outR1 ∧ decode 0x7A0000020000#48 = .ok .outR2 ∧
    decode 0x7A0000030000#48 = .ok .outR3 := by decide

/-- Every form of IN, its word packed from opcode 16, the kinds of its format and its values. -/
theorem test_decode_in :
    decode 0x820000010000#48 = .ok .inR1 ∧ decode 0x820000020000#48 = .ok .inR2 ∧
    decode 0x820000030000#48 = .ok .inR3 := by decide

/-- Every form of HALT, its word packed from opcode 14, the kinds of its format and its values. -/
theorem test_decode_halt : decode 0x700000000000#48 = .ok .halt := by decide

/-- The words of 95_test_vectors.md 2.1 that do not decode, two of the absent pairs and the all-zero word. -/
theorem test_decode_misses :
    decode 0x028000010001#48 = .error .sameRegister ∧ decode 0x1A8000010002#48 = .error .wrongShape ∧
    decode 0x030000040001#48 = .error .noSuchRegister ∧ decode 0x0A8000010002#48 = .error .wrongShape ∧
    decode 0x5A0000010000#48 = .error .branchShape ∧ decode 0x720000010000#48 = .error .haltWithArguments ∧
    decode 0x880000000000#48 = .error .malformedWord ∧ decode 0x700000010000#48 = .error .malformedWord ∧
    decode 0x700100000000#48 = .error .malformedWord ∧ decode 0x3A8000010003#48 = .error .absentPair ∧
    decode 0x528000020001#48 = .error .absentPair ∧ decode 0x000000000000#48 = .error .wrongShape := by decide

/-- The host's question, a form and a miss. -/
theorem test_decodeTableWord :
    decodeTableWord 48 0x5C0000050000 = some (.jmp 5) ∧ decodeTableWord 48 0x028000010001 = none := by decide

/-- 65535 and -1 are one operand (R83). -/
theorem test_operand_65535_is_minus_one :
    decodeItem (.record ⟨.mov, .two (.reg 3) (.num 65535)⟩) = .ok (.movR3 0xFFFF) ∧
    decodeItem (.record ⟨.mov, .two (.reg 3) (.num (-1))⟩) = .ok (.movR3 0xFFFF) := by decide

/-! ## The control store: the hex column of 41_control_store.md R190 -/

/-- Micro-words 0 to 31. -/
theorem test_store_hex_0 :
    ((controlStore.drop 0).take 32).map encodeMicro =
    [0x40020000#32, 0x30040000#32, 0x004E0009#32, 0x004E0011#32, 0x004E0019#32, 0x08AE0009#32, 0x04AE0011#32,
      0x0CAE0011#32, 0x08AE0019#32, 0x0CAE0009#32, 0x04AE0019#32, 0x0103A000#32, 0x008E0009#32, 0x0103A000#32,
      0x008E0011#32, 0x0103A000#32, 0x008E0019#32, 0x05030000#32, 0x000E4001#32, 0x09030000#32, 0x000E4001#32,
      0x0D030000#32, 0x000E4001#32, 0x0A030000#32, 0x0002A000#32, 0x008E0009#32, 0x0E030000#32, 0x0002A000#32,
      0x008E0009#32, 0x06030000#32, 0x0002A000#32, 0x008E0011#32] := by decide

/-- Micro-words 32 to 63. -/
theorem test_store_hex_32 :
    ((controlStore.drop 32).take 32).map encodeMicro =
    [0x0E030000#32, 0x0002A000#32, 0x008E0011#32, 0x06030000#32, 0x0002A000#32, 0x008E0019#32, 0x0A030000#32,
      0x0002A000#32, 0x008E0019#32, 0x0A030000#32, 0x040E4001#32, 0x0E030000#32, 0x040E4001#32, 0x06030000#32,
      0x080E4001#32, 0x0E030000#32, 0x080E4001#32, 0x06030000#32, 0x0C0E4001#32, 0x0A030000#32, 0x0C0E4001#32,
      0x00021320#32, 0x002E0009#32, 0x00020B20#32, 0x002E0011#32, 0x00020A20#32, 0x002E0019#32, 0x00020A40#32,
      0x002E0009#32, 0x00021140#32, 0x002E0011#32, 0x00021940#32] := by decide

/-- Micro-words 64 to 95. -/
theorem test_store_hex_64 :
    ((controlStore.drop 64).take 32).map encodeMicro =
    [0x002E0019#32, 0x00020AE0#32, 0x002E0009#32, 0x000211E0#32, 0x002E0011#32, 0x000219E0#32, 0x002E0019#32,
      0x00020AC0#32, 0x002E0009#32, 0x000211C0#32, 0x002E0011#32, 0x000219C0#32, 0x002E0019#32, 0x00020880#32,
      0x002E0009#32, 0x00021080#32, 0x002E0011#32, 0x00021880#32, 0x002E0019#32, 0x000E0A41#32, 0x000E1341#32,
      0x000E0B41#32, 0x00160001#32, 0x040E0005#32, 0x080E0005#32, 0x0C0E0005#32, 0x006E000B#32, 0x006E0013#32,
      0x006E001B#32, 0x000E0001#32, 0x000E0C41#32, 0x000E1441#32] := by decide

/-- Micro-words 96 to 126. -/
theorem test_store_hex_96 :
    ((controlStore.drop 96).take 32).map encodeMicro =
    [0x000E1C41#32, 0x00020BC0#32, 0x002E0009#32, 0x000213C0#32, 0x002E0011#32, 0x00021AC0#32, 0x002E0019#32,
      0x00020B40#32, 0x002E0009#32, 0x00021340#32, 0x002E0011#32, 0x00021A40#32, 0x002E0019#32, 0x00020BE0#32,
      0x002E0009#32, 0x000213E0#32, 0x002E0011#32, 0x00021AE0#32, 0x002E0019#32, 0x00020A60#32, 0x002E0009#32,
      0x00021160#32, 0x002E0011#32, 0x00021960#32, 0x002E0019#32, 0x000208A0#32, 0x002E0009#32, 0x000210A0#32,
      0x002E0011#32, 0x000218A0#32, 0x002E0019#32] := by decide

/-- 127 micro-words (R180). -/
theorem test_store_length : (controlStore.drop 96).length = 31 := by decide

/-- R192 (a), (b), (c), (f). -/
theorem test_store_selects_next :
    controlStore.all (fun m => m.selMpc.isSome && (!m.latchIp || (m.selIp.isSome && m.selMpc == some .null)) &&
      (m.latchReg.isNone || m.selMux1.isSome) && (!m.latchDr || m.memRead)) = true := by decide

/-- R192 (g), (i). -/
theorem test_store_alu_operands :
    controlStore.all (fun m => (m.aluOp.isNone || m.selOp1.isSome) && (m.aluOp.isNone || m.selOp2.isSome ||
      m.aluOp == some .inc || m.aluOp == some .dec) && !(m.memRead && m.memWrite)) = true := by decide

/-- R192 (h). -/
theorem test_store_decode_only_word_1 :
    (controlStore.drop 2).all (fun m => !m.decode && !m.latchOr && !m.fetch && m.selMpc != some .next) = true := by decide

/-! ## Single steps against the vectors of 95_test_vectors.md 2.3 to 2.7 -/

/-- The reset state with one instruction at address 0. -/
def at0 (w : Nat) : State := State.reset.withFetchWord 48 w

/-- The reset state with one instruction at address 0 and these registers. -/
def at0With (w : Nat) (r1 r2 r3 : Int) : State := { at0 w with r1 := wrap16 r1, r2 := wrap16 r2, r3 := wrap16 r3 }

/-- A part of the state after one step. -/
def after {α : Type} (s : State) (f : State → α) : Option α :=
  match step s with
  | .next t => some (f t)
  | .fault _ => none
  | .refused _ => none

/-- The three registers as signed numbers, and the tick counter. -/
def xs (t : State) : Int × Int × Int × Nat := (t.r1.toInt, t.r2.toInt, t.r3.toInt, t.tick)

/-- Where a raising step stands: `pc`, `mpc`, `tick`, `status`. -/
def stop (t : State) : Int × Nat × Nat × Status := (t.pc.toInt, t.mpc.val, t.tick, t.status)

/-- `MOV R1,72`. -/
theorem test_step_mov_imm : after (at0 0x030000010048) xs = some (72, 0, 0, 3) := by decide

/-- `MOV R2,-1`. -/
theorem test_step_mov_minus_one :
    after (at0 0x03000002FFFF) (fun t => (t.r2.toInt, t.orReg.toInt, t.pc)) = some (-1, -1, 1) := by decide

/-- `MOV R1,R2`. -/
theorem test_step_mov_reg : after (at0With 0x028000010002 1 (-5) 9) xs = some (-5, -5, 9, 3) := by decide

/-- `MOV R3,R1` leaves the flag. -/
theorem test_step_mov_keeps_z :
    after { at0With 0x028000030001 7 0 0 with z := true } (fun t => (t.r3, t.z)) = some (7, true) := by decide

/-- `LOAD R1,5`. -/
theorem test_step_load_direct :
    after { at0 0x0B0000010005 with mem := [(5, 1234)] } (fun t => (t.r1, t.ar, t.mo, t.dr, t.tick)) = some (1234, 5, 1234, 1234, 4) := by decide

/-- `LOAD R1,1024`. -/
theorem test_step_load_1024 :
    after (at0 0x0B0000010400) stop = some (0, 11, 2, .error (.memoryBoundsError 1024)) := by decide

/-- `LOAD R1,(R2)`. -/
theorem test_step_load_indirect :
    after { at0With 0x0B8000010002 0 100 0 with mem := [(100, 77)] } (fun t => (t.r1, t.r2, t.ar, t.dr, t.tick)) = some (77, 100, 100, 77, 5) := by decide

/-- `LOAD R3,(R1)` at -1. -/
theorem test_step_load_indirect_negative :
    after (at0With 0x0B8000030001 (-1) 0 0) stop = some (0, 36, 3, .error (.memoryBoundsError 0xFFFF)) := by decide

/-- `STORE R1,10`. -/
theorem test_step_store_direct :
    after (at0With 0x13000001000A (-2) 0 0) (fun t => (t.mem, t.ar, t.tick)) = some ([(10, 0xFFFE)], 10, 4) := by decide

/-- `STORE R3,1024`. -/
theorem test_step_store_1024 :
    after (at0With 0x130000030400 0 0 5) stop = some (0, 22, 3, .error (.memoryBoundsError 1024)) := by decide

/-- `STORE R1,(R2)`. -/
theorem test_step_store_indirect :
    after (at0With 0x138000010002 65 100 0) (fun t => (t.mem, t.mux2Sel, t.mux3Sel)) = some ([(100, 65)], .r1, .mux2) := by decide

/-- `STORE R2,(R3)` at -3. -/
theorem test_step_store_indirect_negative :
    after (at0With 0x138000020003 0 9 (-3)) stop = some (0, 48, 3, .error (.memoryBoundsError 0xFFFD)) := by decide

/-- `ADD R1`. -/
theorem test_step_add_r1 : after (at0With 0x1A0000010000 99 30 12) xs = some (42, 30, 12, 4) := by decide

/-- `ADD R2`. -/
theorem test_step_add_wraps : after (at0With 0x1A0000020000 32767 5 1) xs = some (32767, -32768, 1, 4) := by decide

/-- `ADD R3`. -/
theorem test_step_add_r3 : after (at0With 0x1A0000030000 (-5) 5 77) xs = some (-5, 5, 0, 4) := by decide

/-- `SUB R1,R2`. -/
theorem test_step_sub_12 : after (at0With 0x228000010002 10 3 0) xs = some (7, 3, 0, 4) := by decide

/-- `SUB R2,R1`. -/
theorem test_step_sub_21 : after (at0With 0x228000020001 10 3 0) xs = some (10, -7, 0, 4) := by decide

/-- `SUB R1,R3`. -/
theorem test_step_sub_wraps : after (at0With 0x228000010003 (-32768) 0 1) xs = some (32767, 0, 1, 4) := by decide

/-- `IDIV R1,R2`. -/
theorem test_step_idiv_floor : after (at0With 0x2A8000010002 (-7) 2 0) xs = some (1, 2, 0, 4) := by decide

/-- `IDIV R1,R2`. -/
theorem test_step_idiv_negative_divisor : after (at0With 0x2A8000010002 7 (-2) 0) xs = some (-1, -2, 0, 4) := by decide

/-- `DIV R1,R2`. -/
theorem test_step_div_floor : after (at0With 0x328000010002 (-7) 2 0) xs = some (-4, 2, 0, 4) := by decide

/-- `DIV R3,R1`. -/
theorem test_step_div_31 : after (at0With 0x328000030001 5 0 17) xs = some (5, 0, 3, 4) := by decide

/-- `DIV R1,R3`. -/
theorem test_step_div_overflow : after (at0With 0x328000010003 (-32768) 0 (-1)) xs = some (-32768, 0, -1, 4) := by decide

/-- `MUL R1,R2`. -/
theorem test_step_mul_12 : after (at0With 0x3A8000010002 6 7 0) xs = some (42, 7, 0, 4) := by decide

/-- `MUL R3,R1`. -/
theorem test_step_mul_wraps : after (at0With 0x3A8000030001 300 0 300) xs = some (300, 0, 24464, 4) := by decide

/-- `MUL R2,R1`, 65536 wraps to 0. -/
theorem test_step_mul_zero_flag :
    after (at0With 0x3A8000020001 256 256 0) (fun t => (t.r2, t.z)) = some (0, true) := by decide

/-- `IDIV R2,R3` by 0. -/
theorem test_step_idiv_zero :
    after (at0With 0x2A8000020003 0 5 0) stop = some (0, 111, 2, .error (.arithmeticError .idiv 5)) := by decide

/-- `DIV R2,R1` by 0. -/
theorem test_step_div_zero :
    after (at0With 0x328000020001 0 9 0) stop = some (0, 73, 2, .error (.arithmeticError .div 9)) := by decide

/-- `INC R1`. -/
theorem test_step_inc_wraps : after (at0With 0x420000010000 32767 0 0) xs = some (-32768, 0, 0, 4) := by decide

/-- `INC R2` of -1; `op2` is not loaded. -/
theorem test_step_inc_zero_keeps_op2 :
    after { at0With 0x420000020000 0 (-1) 0 with op2 := 33 } (fun t => (t.r2, t.z, t.op2)) = some (0, true, 33) := by decide

/-- `DEC R3` of 1. -/
theorem test_step_dec_zero : after (at0With 0x4A0000030000 0 0 1) (fun t => (t.r3, t.z)) = some (0, true) := by decide

/-- `DEC R1`. -/
theorem test_step_dec_wraps : after (at0With 0x4A0000010000 (-32768) 0 0) xs = some (32767, 0, 0, 4) := by decide

/-- `CMP R1,R2`. -/
theorem test_step_cmp_equal :
    after (at0With 0x528000010002 4 4 0) (fun t => (t.z, t.op1, t.op2, t.res, t.tick)) = some (true, 4, 4, 0, 3) := by decide

/-- `CMP R2,R3`, the difference overflows. -/
theorem test_step_cmp_overflow :
    after (at0With 0x528000020003 0 32767 (-32768)) (fun t => (t.z, t.res)) = some (false, 0xFFFF) := by decide

/-- `CMP R2,65535`. -/
theorem test_step_cmp_imm :
    after (at0With 0x53000002FFFF 0 (-1) 0) (fun t => (t.z, t.orReg)) = some (true, 0xFFFF) := by decide

/-- `JMP 5`. -/
theorem test_step_jmp : after (at0 0x5C0000050000) (fun t => (t.pc, t.ipSel, t.tick)) = some (5, .operand, 3) := by decide

/-- `JZ 7` with the flag set. -/
theorem test_step_jz_taken :
    after { at0 0x640000070000 with z := true } (fun t => (t.pc, t.decEntry)) = some (7, 86) := by decide

/-- `JZ 7` with the flag clear; the operand is latched all the same. -/
theorem test_step_jz_not_taken :
    after (at0 0x640000070000) (fun t => (t.pc, t.orReg, t.decEntry)) = some (1, 7, 93) := by decide

/-- `JNZ 3` with the flag clear. -/
theorem test_step_jnz_taken : after (at0 0x6C0000030000) (fun t => (t.pc, t.decEntry)) = some (3, 86) := by decide

/-- `JNZ 3` with the flag set. -/
theorem test_step_jnz_not_taken :
    after { at0 0x6C0000030000 with z := true } (fun t => (t.pc, t.decEntry)) = some (1, 93) := by decide

/-- `OUT R1`, "H". -/
theorem test_step_out : after (at0With 0x7A0000010000 72 0 0) (fun t => (t.out, t.pc)) = some ([72], 1) := by decide

/-- `OUT R3`: no byte truncation, appended at the end. -/
theorem test_step_out_300 :
    after { at0With 0x7A0000030000 0 0 300 with out := [1] } (fun t => t.out) = some [1, 300] := by decide

/-- `OUT R1` of -1. -/
theorem test_step_out_negative :
    after (at0With 0x7A0000010000 (-1) 0 0) stop = some (0, 87, 2, .error (.outOfRangeOutput 0xFFFF)) := by decide

/-- `IN R2`. -/
theorem test_step_in :
    after { at0With 0x820000020000 1 2 3 with inQ := [120, 121] } (fun t => (t.r1, t.r2, t.r3, t.inQ)) = some (1, 120, 3, [121]) := by decide

/-- `IN R3` on an empty queue. -/
theorem test_step_in_empty : after (at0With 0x820000030000 1 2 3) stop = some (0, 92, 2, .inputExhausted) := by decide

/-- `IN R1` of code 128: refused, not popped. -/
theorem test_step_in_128 :
    after { at0With 0x820000010000 1 2 3 with inQ := [128] } (fun t => (t.status, t.r1, t.inQ)) = some (.error (.outOfRangeInput 128), 1, [128]) := by decide

/-- `HALT`. -/
theorem test_step_halt : after (at0 0x700000000000) stop = some (0, 1, 1, .halted) := by decide

/-- `MUL R1,R3`. -/
theorem test_step_absent_mul :
    after (at0With 0x3A8000010003 2 0 3) stop = some (0, 1, 1, .error (.decodeError (.record ⟨.mul, .two (.reg 1) (.reg 3)⟩))) := by decide

/-- The empty program. -/
theorem test_step_empty_program :
    (match step State.reset with | .next t => some (stop t) | _ => none) =
    some (0, 0, 0, .error (.instructionBoundsError 0)) := by decide

/-- The micro level: `IN R1` on an empty queue, three ticks (95_test_vectors.md 1.3): earlier lines of the raising tick keep their effect. -/
theorem test_tick_in_raises_late :
    (match ticks 3 (at0 0x820000010000) with | .next t => some (t.mux1Sel, t.mpcSel, t.mpc, t.tick, t.status) | _ => none) =
    some (.input, .null, 90, 2, .inputExhausted) := by decide

/-- The launch of the source's first example, with some data and input. -/
theorem test_launch_example_1 :
    ((State.load ⟨textOfWords [0x030000010048#48, 0x7A0000010000#48, 0x700000000000#48], [79, -1], [65]⟩).map
      fun s => (s.imem.length, s.mem, s.inQ)) = some (3, [(0, 79), (1, 0xFFFF)], [65]) := by decide

/-- The first trace record (95_test_vectors.md 1.1). -/
theorem test_trace_first_tick :
    (tickTrace (at0 0x030000010048)).map (fun r => (r.tick, r.mpc, r.action, r.pc)) = some (0, 0, .instructionFetch, 0) := by decide

/-- `out_strobe` and `out_code` in the tick of an OUT (R307). -/
theorem test_ports_out :
    (ports { at0With 0x7A0000010000 72 0 0 with mpc := 87, mw := cs 87 }).outCode = some 72 := by decide

/-! ## Witnesses: for each obligation with hypotheses, values that meet them all, and one for each clause -/

/-- A Running state at a boundary whose program is one item. -/
def run1 (item : Item) : State := { State.reset with imem := [item] }

theorem witness_EncodeDecodeRoundTrip : decode 0x030000010048#48 = .ok (.movR1 72) := by decide

theorem witness_RecordOfWellFormedWord_record :
    Record.fitsWord ⟨.mov, .two (.reg 3) (.num 65535)⟩ = true ∧ Record.word ⟨.mov, .two (.reg 3) (.num 65535)⟩ = 0x03000003FFFF#48 := by decide

theorem witness_RecordOfWellFormedWord :
    wordWellFormed 0x030000010048#48 = true ∧ wordWellFormed 0x880000000000#48 = false := by decide

/-- `ADD R1,R2`, a record that is no form. -/
def badRecord : Record := ⟨.add, .two (.reg 1) (.reg 2)⟩

theorem witness_RecordOutsideFormsIsDecodeError_line :
    (∀ i : Instr, recordNormal badRecord ≠ i.toRecord) ∧
    ({ State.reset with ir := some (.record badRecord) } : State).ir = some (.record badRecord) := by
  refine ⟨fun i => ?_, rfl⟩
  cases i <;> simp [recordNormal, badRecord, Instr.toRecord]

theorem witness_RecordOutsideFormsIsDecodeError_step :
    (run1 (.record badRecord)).status = .running ∧ (run1 (.record badRecord)).AtBoundary ∧
    imemRead (run1 (.record badRecord)).imem (run1 (.record badRecord)).pc = some (.record badRecord) := ⟨rfl, ⟨rfl, rfl⟩, rfl⟩

theorem witness_AbsentPairsRaiseDecodeError :
    (Opcode.mul, 1, 3) ∈ ([(.mul, 1, 3), (.mul, 2, 3), (.mul, 3, 2), (.cmp, 2, 1), (.cmp, 3, 2), (.cmp, 3, 1)] :
      List (Opcode × Nat × Nat)) := by decide

theorem witness_MicroWordRoundTrip : decodeMicro 0x40020000#32 = some (cs 0) := by decide

/-- `MOV R1,72` as an item. -/
def movItem : Item := .record ⟨.mov, .two (.reg 1) (.num 72)⟩

theorem witness_StepRunsDecodedInstruction :
    (run1 movItem).status = .running ∧ (run1 movItem).AtBoundary ∧
    imemRead (run1 movItem).imem (run1 movItem).pc = some movItem ∧ decodeItem movItem = .ok (.movR1 72) := ⟨rfl, ⟨rfl, rfl⟩, rfl, rfl⟩

theorem witness_PlacedWordRuns : decodeTableWord 48 0x030000010048 = some (.movR1 72) := by decide

theorem witness_StepIsTheTicksOfOneInstruction :
    (run1 movItem).status = .running ∧ (run1 movItem).AtBoundary := ⟨rfl, rfl, rfl⟩

theorem witness_CompletedInstructionTakesTwoPlusSteps :
    (run1 movItem).status = .running ∧ (run1 movItem).AtBoundary ∧
    imemRead (run1 movItem).imem (run1 movItem).pc = some movItem ∧ decodeItem movItem = .ok (.movR1 72) ∧
    ∃ t, step (run1 movItem) = .next t ∧ t.status = .running := ⟨rfl, ⟨rfl, rfl⟩, rfl, rfl, _, rfl, rfl⟩

theorem witness_FetchOutsideProgramRaises_below :
    ({ run1 movItem with pc := 0xFFFF } : State).status = .running ∧ ({ run1 movItem with pc := 0xFFFF } : State).AtBoundary ∧
    ({ run1 movItem with pc := 0xFFFF } : State).pc.toInt < 0 := ⟨rfl, ⟨rfl, rfl⟩, by decide⟩

theorem witness_FetchOutsideProgramRaises_above :
    ({ run1 movItem with pc := 1 } : State).status = .running ∧ ({ run1 movItem with pc := 1 } : State).AtBoundary ∧
    (({ run1 movItem with pc := 1 } : State).imem.length : Int) ≤ ({ run1 movItem with pc := 1 } : State).pc.toInt := ⟨rfl, ⟨rfl, rfl⟩, by decide⟩

theorem witness_DecodeMissState :
    (run1 (.record badRecord)).status = .running ∧ (run1 (.record badRecord)).AtBoundary ∧
    imemRead (run1 (.record badRecord)).imem (run1 (.record badRecord)).pc = some (.record badRecord) ∧
    decodeItem (.record badRecord) = .error .wrongShape := ⟨rfl, ⟨rfl, rfl⟩, rfl, rfl⟩

theorem witness_TerminalStatusIsFinal : ({ State.reset with status := .halted } : State).status ≠ .running := by decide

/-- The run of `MOV R1,72` meets the invariant at reset, -/
theorem inv_run1 : (run1 movItem).Inv where
  microWord := rfl
  memory := rfl
  output := by simp [run1, State.reset]
  operand _ := rfl
  instruction h := absurd rfl h

/-- and after its fetch tick, in the middle of the instruction. -/
theorem inv_fetched : ((run1 movItem).fetched movItem).Inv where
  microWord := rfl
  memory := rfl
  output := by simp [run1, State.reset, State.fetched, State.goTo]
  operand _ := rfl
  instruction _ := ⟨movItem, rfl, rfl⟩

theorem witness_StepKeepsInv : (run1 movItem).Inv ∧ ∃ t, step (run1 movItem) = .next t := ⟨inv_run1, _, rfl⟩

theorem witness_TickKeepsInv :
    ((run1 movItem).fetched movItem).Inv ∧ ∃ t, tick ((run1 movItem).fetched movItem) = .next t := ⟨inv_fetched, _, rfl⟩

theorem witness_StepAnswersNext : ((run1 movItem).fetched movItem).Inv := inv_fetched

theorem witness_TickAnswersNext :
    ((run1 movItem).fetched movItem).Inv ∧ ((run1 movItem).fetched movItem).status = .running := ⟨inv_fetched, rfl⟩

theorem witness_RunsOfALaunch : ∃ s, State.load ⟨[movItem], [79], [65]⟩ = some s := ⟨_, rfl⟩

/-- A launch with a number and a data element at each bound, and a word that is no record. -/
def edgeLaunch : Launch :=
  ⟨[.record ⟨.mov, .two (.reg 1) (.num 65535)⟩, .record ⟨.jmp, .one (.num (-32768))⟩, .malformed 0x880000000000#48],
    [-32768, 65535], [65]⟩

theorem witness_LoadBuildsResetState_accepted :
    (∀ r : Record, .record r ∈ edgeLaunch.text → ∀ v ∈ recordNumbers r, -32768 ≤ v ∧ v ≤ 65535) ∧
    (∀ w : InstrWord, .malformed w ∈ edgeLaunch.text → wordWellFormed w = false) ∧ edgeLaunch.text.length ≤ 32768 ∧
    edgeLaunch.data.length ≤ 1024 ∧ (∀ v ∈ edgeLaunch.data, -32768 ≤ v ∧ v ≤ 65535) ∧ 1 < edgeLaunch.data.length := by
  refine ⟨fun r h => ?_, fun w h => ?_, by decide, by decide, by decide, by decide⟩
  · simp only [edgeLaunch, List.mem_cons, Item.record.injEq, List.not_mem_nil, reduceCtorEq, or_false] at h
    rcases h with rfl | rfl <;> decide
  · simp only [edgeLaunch, List.mem_cons, Item.malformed.injEq, List.not_mem_nil, reduceCtorEq, or_false, false_or] at h
    subst h; decide

theorem witness_LoadBuildsResetState_refused :
    ¬(∀ v ∈ ([65536] : List Int), -32768 ≤ v ∧ v ≤ 65535) ∧ ¬(∀ v ∈ recordNumbers ⟨.jmp, .one (.num (-32769))⟩, -32768 ≤ v ∧ v ≤ 65535) := by decide

theorem witness_RaisingInstructionIsPrecise :
    State.reset.status = .running ∧ State.reset.AtBoundary ∧ ∃ t, step State.reset = .next t ∧ t.status ≠ .running := ⟨rfl, ⟨rfl, rfl⟩, _, rfl, by decide⟩

theorem witness_TickBookkeeping_increment :
    (run1 movItem).status = .running ∧ ∃ t, tick (run1 movItem) = .next t ∧ t.status = .running ∧ t.mpcSel = .increment := ⟨rfl, _, rfl, rfl, rfl⟩

theorem witness_TickBookkeeping_next :
    ((run1 movItem).fetched movItem).status = .running ∧
    ∃ t, tick ((run1 movItem).fetched movItem) = .next t ∧ t.status = .running ∧ t.mpcSel = .next := ⟨rfl, _, rfl, rfl, rfl⟩

theorem witness_TickBookkeeping_null :
    (((run1 movItem).fetched movItem).dispatch (some 72) 2).status = .running ∧
    ∃ t, tick (((run1 movItem).fetched movItem).dispatch (some 72) 2) = .next t ∧ t.status = .running ∧ t.mpcSel = .null := ⟨rfl, _, rfl, rfl, rfl⟩

theorem witness_TickBookkeeping_raises :
    State.reset.status = .running ∧ ∃ t, tick State.reset = .next t ∧ t.status ≠ .running := ⟨rfl, _, rfl, by decide⟩

theorem witness_EachLineWritesItsOwnState_word2 :
    (∃ t, tick (((run1 movItem).fetched movItem).dispatch (some 72) 2) = .next t) ∧
    (cs 2).memWrite = false ∧ (cs 2).memRead = false ∧ (cs 2).latchDr = false ∧ (cs 2).latchAr = false ∧ (cs 2).latchOr = false ∧
    (cs 2).aluOp = none ∧ (cs 2).selOp1 = none ∧ (cs 2).selOp2 = none ∧ (cs 2).output = false ∧ (cs 2).inputAdvance = false ∧
    (cs 2).fetch = false ∧ (cs 2).decode = false ∧ (cs 2).selMux2 = none ∧ (cs 2).selMux3 = none := ⟨⟨_, rfl⟩, by decide⟩

theorem witness_EachLineWritesItsOwnState_word0 :
    (∃ t, tick (run1 movItem) = .next t) ∧ (cs 0).latchReg = none ∧ (cs 0).latchIp = false ∧ (cs 0).selMux1 = none ∧
    (cs 0).selIp = none := ⟨⟨_, rfl⟩, by decide⟩

theorem witness_EachLineWritesItsOwnState_no_line : ∃ t, tick { run1 movItem with mw := {} } = .next t := ⟨_, rfl⟩

theorem witness_DevicesAndProgramAcrossAStep : ∃ t, step (run1 movItem) = .next t := ⟨_, rfl⟩

theorem witness_WhatInstructionsMayChange :
    (∃ t, exec (.storeR1 1023) State.reset = .next t) ∧ destination (.storeR1 1023) ≠ some .r1 ∧
    writesZ (Instr.storeR1 1023).toRecord.opcode = false ∧ storeAddress (.storeR1 1023) State.reset = some 1023 ∧
    (Instr.storeR1 1023).toRecord.opcode ≠ .out ∧ (Instr.storeR1 1023).toRecord.opcode ≠ .inp := ⟨⟨_, rfl⟩, by decide⟩

theorem witness_DivIdivFloorLaw :
    (2 : Word) ≠ 0 ∧ 0 < (2 : Word).toInt ∧ (0xFFFF : Word) ≠ 0 ∧ (0xFFFF : Word).toInt < 0 ∧
    ¬((7 : Word).toInt = -32768 ∧ (2 : Word).toInt = -1) ∧ ((0x8000 : Word).toInt = -32768 ∧ (0xFFFF : Word).toInt = -1) := by decide

theorem witness_AluOperationLine :
    ({ State.reset with op2 := 1 } : State).op2.toInt ≠ 0 ∧ State.reset.op2.toInt = 0 := by decide

theorem witness_DivisionByZeroEndsTheTick : (AluOp.div = .div ∨ AluOp.div = .idiv) ∧ State.reset.op2 = 0 := by decide

theorem witness_MemWriteChangesOneWord :
    Memory.wf [(5, 300)] = true ∧ (InMemory 0 ∧ InMemory 1023) ∧ (0xFFFF : Word).toInt < 0 ∧ 1024 ≤ (1024 : Word).toInt := ⟨rfl, ⟨⟨by decide, by decide⟩, ⟨by decide, by decide⟩⟩, by decide, by decide⟩

theorem witness_RegisterLatchLine :
    State.reset.mux1 = .ok 0 ∧ ({ State.reset with mux1Sel := .input } : State).mux1 = .error .inputExhausted ∧
    Line.latchIp ≠ .latchReg := by decide

theorem witness_RegisterLatchLine_selections :
    State.reset.mux1Sel = .alu ∧ ({ State.reset with mux1Sel := .or } : State).mux1Sel = .or ∧
    ({ State.reset with mux1Sel := .dr } : State).mux1Sel = .dr ∧ ({ State.reset with mux1Sel := .mux2 } : State).mux1Sel = .mux2 ∧
    ({ State.reset with mux1Sel := .input } : State).inQ = [] := by decide

theorem witness_RegisterLatchLine_codes :
    ({ State.reset with mux1Sel := .input, inQ := [128] } : State).inQ = 128 :: [] ∧ (((128 : Nat) : Int) < -128 ∨ 127 < ((128 : Nat) : Int)) ∧
    ({ State.reset with mux1Sel := .input, inQ := [127] } : State).inQ = 127 :: [] ∧
    ¬(((127 : Nat) : Int) < -128 ∨ 127 < ((127 : Nat) : Int)) := by decide

theorem witness_MuxesAndMemoryLines_selectors :
    State.reset.mux2Sel = .r1 ∧ ({ State.reset with mux2Sel := .r2 } : State).mux2Sel = .r2 ∧
    ({ State.reset with mux2Sel := .r3, mux3Sel := .mux2 } : State).mux2Sel = .r3 ∧ State.reset.mux3Sel = .operand ∧
    ({ State.reset with mux2Sel := .r3, mux3Sel := .mux2 } : State).mux3Sel = .mux2 := by decide

theorem witness_MuxesAndMemoryLines_addresses :
    (InMemory State.reset.ar ∧ State.reset.MemWf) ∧ InMemory ({ State.reset with ar := 1023 } : State).ar ∧
    ¬InMemory ({ State.reset with ar := 1024 } : State).ar ∧ ¬InMemory ({ State.reset with ar := 0xFFFF } : State).ar := ⟨⟨⟨by decide, by decide⟩, rfl⟩, ⟨by decide, by decide⟩, fun h => absurd h.2 (by decide), fun h => absurd h.1 (by decide)⟩

theorem witness_MuxesAndMemoryLines_operands :
    (cs 65).selOp1 = some .r1 ∧ (cs 65).selOp2 = some .r2 ∧ (cs 61).selOp2 = some .r1 ∧ (cs 53).selOp2 = some .r3 ∧
    (cs 94).selOp2 = some .or := by decide

theorem witness_MovImmediateResult :
    (Instr.movR2 72, Reg.r2, (3 : MicroAddr)) ∈ ([(.movR1 72, .r1, 2), (.movR2 72, .r2, 3), (.movR3 72, .r3, 4)] :
      List (Instr × Reg × MicroAddr)) := by decide

theorem witness_MovRegisterResult :
    (Instr.movR1R2, Reg.r1, Reg.r2, (5 : MicroAddr)) ∈ ([(.movR1R2, .r1, .r2, 5), (.movR2R1, .r2, .r1, 6),
      (.movR2R3, .r2, .r3, 7), (.movR3R2, .r3, .r2, 8), (.movR1R3, .r1, .r3, 9), (.movR3R1, .r3, .r1, 10)] : List
      (Instr × Reg × Reg × MicroAddr)) := by decide

theorem witness_LoadDirectResult :
    (Instr.loadR2 1023, Reg.r2, (13 : MicroAddr)) ∈ ([(.loadR1 1023, .r1, 11), (.loadR2 1023, .r2, 13), (.loadR3
      1023, .r3, 15)] : List (Instr × Reg × MicroAddr)) ∧
    InMemory (0 : Word) ∧ InMemory (1023 : Word) := ⟨by decide, ⟨by decide, by decide⟩, ⟨by decide, by decide⟩⟩

theorem witness_LoadIndirectResult :
    (Instr.loadR1AtR2, Reg.r1, Reg.r2, (23 : MicroAddr)) ∈ ([(.loadR1AtR2, .r1, .r2, 23), (.loadR1AtR3, .r1, .r3,
      26), (.loadR2AtR1, .r2, .r1, 29), (.loadR2AtR3, .r2, .r3, 32), (.loadR3AtR1, .r3, .r1, 35), (.loadR3AtR2, .r3,
      .r2, 38)] : List (Instr × Reg × Reg × MicroAddr)) ∧
    InMemory (State.reset.effectiveAddress (.indirect .r2)) ∧
    InMemory (({ State.reset with r2 := 1023 } : State).effectiveAddress (.indirect .r2)) := ⟨by decide, ⟨by decide, by decide⟩, ⟨by decide, by decide⟩⟩

theorem witness_StoreDirectResult :
    (Instr.storeR2 1023, Reg.r2, (19 : MicroAddr)) ∈ ([(.storeR1 1023, .r1, 17), (.storeR2 1023, .r2, 19), (.storeR3
      1023, .r3, 21)] : List (Instr × Reg × MicroAddr)) ∧
    State.reset.MemWf ∧ InMemory (State.reset.effectiveAddress (.direct 1023)) ∧ InMemory (State.reset.effectiveAddress (.direct 0)) := ⟨by decide, rfl, ⟨by decide, by decide⟩, ⟨by decide, by decide⟩⟩

theorem witness_StoreIndirectResult :
    (Instr.storeR1AtR2, Reg.r1, Reg.r2, (41 : MicroAddr)) ∈ ([(.storeR1AtR2, .r1, .r2, 41), (.storeR1AtR3, .r1, .r3,
      43), (.storeR2AtR1, .r2, .r1, 45), (.storeR2AtR3, .r2, .r3, 47), (.storeR3AtR1, .r3, .r1, 49), (.storeR3AtR2,
      .r3, .r2, 51)] : List (Instr × Reg × Reg × MicroAddr)) ∧
    State.reset.MemWf ∧ InMemory (State.reset.effectiveAddress (.indirect .r2)) ∧
    InMemory (({ State.reset with r2 := 1023 } : State).effectiveAddress (.indirect .r2)) := ⟨by decide, rfl, ⟨by decide, by decide⟩, ⟨by decide, by decide⟩⟩

theorem witness_StoreThenLoadReturnsTheWord :
    State.reset.MemWf ∧ InMemory (0 : Word) ∧ InMemory (1023 : Word) := ⟨rfl, ⟨by decide, by decide⟩, ⟨by decide, by decide⟩⟩

theorem witness_AddResult :
    (Instr.addR2, Reg.r2, Reg.r1, Reg.r3, (55 : MicroAddr)) ∈ ([(.addR1, .r1, .r2, .r3, 53), (.addR2, .r2, .r1, .r3,
      55), (.addR3, .r3, .r1, .r2, 57)] : List (Instr × Reg × Reg × Reg × MicroAddr)) := by decide

theorem witness_SubResult :
    (Instr.subR1R3, Reg.r1, Reg.r3, (103 : MicroAddr)) ∈ ([(.subR1R2, .r1, .r2, 59), (.subR2R1, .r2, .r1, 61),
      (.subR3R1, .r3, .r1, 63), (.subR1R3, .r1, .r3, 103), (.subR2R3, .r2, .r3, 105), (.subR3R2, .r3, .r2, 107)] :
      List (Instr × Reg × Reg × MicroAddr)) := by decide

theorem witness_MulResult :
    (Instr.mulR3R1, Reg.r3, Reg.r1, (119 : MicroAddr)) ∈ ([(.mulR1R2, .r1, .r2, 115), (.mulR2R1, .r2, .r1, 117),
      (.mulR3R1, .r3, .r1, 119)] : List (Instr × Reg × Reg × MicroAddr)) := by decide

theorem witness_DivResult :
    (Instr.divR1R3, Reg.r1, Reg.r3, (97 : MicroAddr)) ∈ ([(.divR1R2, .r1, .r2, 71), (.divR2R1, .r2, .r1, 73),
      (.divR3R1, .r3, .r1, 75), (.divR1R3, .r1, .r3, 97), (.divR2R3, .r2, .r3, 99), (.divR3R2, .r3, .r2, 101)] : List
      (Instr × Reg × Reg × MicroAddr)) ∧
    ({ State.reset with r3 := 0xFFFF } : State).reg .r3 ≠ 0 ∧ ({ State.reset with r3 := 1 } : State).reg .r3 ≠ 0 := ⟨by decide, by decide, by decide⟩

theorem witness_IdivResult :
    (Instr.idivR1R3, Reg.r1, Reg.r3, (109 : MicroAddr)) ∈ ([(.idivR1R2, .r1, .r2, 65), (.idivR2R1, .r2, .r1, 67),
      (.idivR3R1, .r3, .r1, 69), (.idivR1R3, .r1, .r3, 109), (.idivR2R3, .r2, .r3, 111), (.idivR3R2, .r3, .r2, 113)] :
      List (Instr × Reg × Reg × MicroAddr)) ∧
    ({ State.reset with r3 := 0xFFFF } : State).reg .r3 ≠ 0 ∧ ({ State.reset with r3 := 1 } : State).reg .r3 ≠ 0 := ⟨by decide, by decide, by decide⟩

theorem witness_IncDecResult :
    (Instr.decR2, Reg.r2, (-1 : Int), (123 : MicroAddr)) ∈ ([(.incR1, .r1, 1, 77), (.incR2, .r2, 1, 79), (.incR3,
      .r3, 1, 81), (.decR1, .r1, (-1), 121), (.decR2, .r2, (-1), 123), (.decR3, .r3, (-1), 125)] : List (Instr × Reg ×
      Int × MicroAddr)) := by decide

theorem witness_CompareResult_registers :
    (Instr.cmpR2R3, Reg.r2, Reg.r3, (84 : MicroAddr)) ∈ ([(.cmpR1R2, .r1, .r2, 83), (.cmpR2R3, .r2, .r3, 84),
      (.cmpR1R3, .r1, .r3, 85)] : List (Instr × Reg × Reg × MicroAddr)) := by decide

theorem witness_CompareResult_number :
    (Instr.cmpR3 10, Reg.r3, (96 : MicroAddr)) ∈ ([(.cmpR1 10, .r1, 94), (.cmpR2 10, .r2, 95), (.cmpR3 10, .r3, 96)]
      : List (Instr × Reg × MicroAddr)) := by decide

theorem witness_BranchResult :
    (Instr.jz 7, State.reset.z) ∈ ([(.jmp 7, true), (.jz 7, State.reset.z), (.jnz 7, !State.reset.z)] : List (Instr × Bool)) := by decide

theorem witness_CompareThenBranch :
    (Instr.cmpR1R3, Reg.r1, Reg.r3, (85 : MicroAddr)) ∈ ([(.cmpR1R2, .r1, .r2, 83), (.cmpR2R3, .r2, .r3, 84),
      (.cmpR1R3, .r1, .r3, 85)] : List (Instr × Reg × Reg × MicroAddr)) := by decide

theorem witness_OutResult :
    (Instr.outR3, Reg.r3, (89 : MicroAddr)) ∈ ([(.outR1, .r1, 87), (.outR2, .r2, 88), (.outR3, .r3, 89)] : List
      (Instr × Reg × MicroAddr)) ∧
    0 ≤ (State.reset.reg .r3).toInt ∧ 0 ≤ (({ State.reset with r3 := 32767 } : State).reg .r3).toInt := ⟨by decide, by decide, by decide⟩

theorem witness_InResult :
    (Instr.inR2, Reg.r2, (91 : MicroAddr)) ∈ ([(.inR1, .r1, 90), (.inR2, .r2, 91), (.inR3, .r3, 92)] : List (Instr ×
      Reg × MicroAddr)) ∧
    ({ State.reset with inQ := [127, 9] } : State).inQ = 127 :: [9] ∧ 127 ≤ 127 ∧
    ({ State.reset with inQ := [0] } : State).inQ = 0 :: [] ∧ 0 ≤ 127 := ⟨by decide, rfl, by decide, rfl, by decide⟩

theorem witness_HaltResult :
    (at0 0x700000000000).status = .running ∧ (at0 0x700000000000).AtBoundary ∧
    imemRead (at0 0x700000000000).imem (at0 0x700000000000).pc = some (.record ⟨.halt, .none⟩) ∧
    decodeItem (.record ⟨.halt, .none⟩) = .ok .halt := ⟨rfl, ⟨rfl, rfl⟩, rfl, rfl⟩

theorem witness_LoadOutOfRangeTraps_direct :
    (Instr.loadR1 1024, Reg.r1, (11 : MicroAddr)) ∈ ([(.loadR1 1024, .r1, 11), (.loadR2 1024, .r2, 13), (.loadR3
      1024, .r3, 15)] : List (Instr × Reg × MicroAddr)) ∧
    ¬InMemory (1024 : Word) ∧ ¬InMemory (0xFFFF : Word) := ⟨by decide, fun h => absurd h.2 (by decide), fun h => absurd h.1 (by decide)⟩

theorem witness_LoadOutOfRangeTraps_indirect :
    (Instr.loadR3AtR1, Reg.r3, Reg.r1, (35 : MicroAddr)) ∈ ([(.loadR1AtR2, .r1, .r2, 23), (.loadR1AtR3, .r1, .r3,
      26), (.loadR2AtR1, .r2, .r1, 29), (.loadR2AtR3, .r2, .r3, 32), (.loadR3AtR1, .r3, .r1, 35), (.loadR3AtR2, .r3,
      .r2, 38)] : List (Instr × Reg × Reg × MicroAddr)) ∧
    ¬InMemory (({ State.reset with r1 := 1024 } : State).effectiveAddress (.indirect .r1)) ∧
    ¬InMemory (({ State.reset with r1 := 0xFFFF } : State).effectiveAddress (.indirect .r1)) := ⟨by decide, fun h => absurd h.2 (by decide), fun h => absurd h.1 (by decide)⟩

theorem witness_StoreOutOfRangeTraps_direct :
    (Instr.storeR1 1024, Reg.r1, (17 : MicroAddr)) ∈ ([(.storeR1 1024, .r1, 17), (.storeR2 1024, .r2, 19), (.storeR3
      1024, .r3, 21)] : List (Instr × Reg × MicroAddr)) ∧
    ¬InMemory (1024 : Word) ∧ ¬InMemory (0xFFFF : Word) := ⟨by decide, fun h => absurd h.2 (by decide), fun h => absurd h.1 (by decide)⟩

theorem witness_StoreOutOfRangeTraps_indirect :
    (Instr.storeR2AtR3, Reg.r2, Reg.r3, (47 : MicroAddr)) ∈ ([(.storeR1AtR2, .r1, .r2, 41), (.storeR1AtR3, .r1, .r3,
      43), (.storeR2AtR1, .r2, .r1, 45), (.storeR2AtR3, .r2, .r3, 47), (.storeR3AtR1, .r3, .r1, 49), (.storeR3AtR2,
      .r3, .r2, 51)] : List (Instr × Reg × Reg × MicroAddr)) ∧
    ¬InMemory (({ State.reset with r3 := 1024 } : State).effectiveAddress (.indirect .r3)) ∧
    ¬InMemory (({ State.reset with r3 := 0xFFFF } : State).effectiveAddress (.indirect .r3)) := ⟨by decide, fun h => absurd h.2 (by decide), fun h => absurd h.1 (by decide)⟩

theorem witness_DivideByZeroTraps :
    (Instr.idivR2R3, AluOp.idiv, Reg.r2, Reg.r3, (111 : MicroAddr)) ∈ ([(.idivR1R2, .idiv, .r1, .r2, 65),
      (.idivR2R1, .idiv, .r2, .r1, 67), (.idivR3R1, .idiv, .r3, .r1, 69), (.idivR1R3, .idiv, .r1, .r3, 109),
      (.idivR2R3, .idiv, .r2, .r3, 111), (.idivR3R2, .idiv, .r3, .r2, 113), (.divR1R2, .div, .r1, .r2, 71), (.divR2R1,
      .div, .r2, .r1, 73), (.divR3R1, .div, .r3, .r1, 75), (.divR1R3, .div, .r1, .r3, 97), (.divR2R3, .div, .r2, .r3,
      99), (.divR3R2, .div, .r3, .r2, 101)] : List (Instr × AluOp × Reg × Reg × MicroAddr)) ∧
    State.reset.reg .r3 = 0 := ⟨by decide, rfl⟩

theorem witness_InputAndOutputTraps_input :
    (Instr.inR1, Reg.r1, (90 : MicroAddr)) ∈ ([(.inR1, .r1, 90), (.inR2, .r2, 91), (.inR3, .r3, 92)] : List (Instr ×
      Reg × MicroAddr)) ∧
    ((State.reset.inQ = [] ∧ Status.inputExhausted = .inputExhausted) ∧
    ∃ c q, ({ State.reset with inQ := [128] } : State).inQ = c :: q ∧ 127 < c ∧
      Status.error (.outOfRangeInput 128) = .error (.outOfRangeInput c)) := ⟨by decide, ⟨rfl, rfl⟩, 128, [], rfl, by decide, rfl⟩

theorem witness_InputAndOutputTraps_output :
    (Instr.outR1, Reg.r1, (87 : MicroAddr)) ∈ ([(.outR1, .r1, 87), (.outR2, .r2, 88), (.outR3, .r3, 89)] : List
      (Instr × Reg × MicroAddr)) ∧
    (({ State.reset with r1 := 0xFFFF } : State).reg .r1).toInt < 0 := ⟨by decide, by decide⟩

theorem witness_TraceRecordOfATick_not_taken :
    ({ State.reset with status := .halted } : State).status ≠ .running := by decide

/-- `MOV R1,72` decoded, at its micro-word 2. -/
def movDecoded : State := ((run1 movItem).fetched movItem).dispatch (some 72) 2

theorem witness_TraceRecordOfATick_execute :
    movDecoded.status = .running ∧ 1 < movDecoded.mpc.val ∧
    ∃ t, tick movDecoded = .next t ∧ t.status = .running ∧ t.ir = some (.record ⟨.mov, .two (.reg 1) (.num 72)⟩) := ⟨rfl, by decide, _, rfl, rfl, rfl⟩

theorem witness_TraceRecordOfATick_completed :
    (run1 movItem).mpc.val ≤ 1 ∧ (run1 movItem).status = .running ∧ ∃ t, tick (run1 movItem) = .next t ∧ t.status = .running := ⟨by decide, rfl, _, rfl, rfl⟩

theorem witness_TraceRecordOfATick_raised :
    State.reset.status = .running ∧ ∃ t, tick State.reset = .next t ∧ t.status ≠ .running := ⟨rfl, _, rfl, by decide⟩

end Sys2Proof.Tests
end

section
/-! PROOF. Settles the two statements of 30_encoding.md on records that are no form (O6, O7). The argument has two halves: what the
decoder accepts is the record of the form it answers, and what the decoder refuses raises DecodeError in `DECODE` and in `step`. -/

namespace Sys2Proof.Encoding

open Sys2Proof.Machine Sys2Proof.Laws

/-! ## The record of each family of forms (R84, R100) -/

/-- The number that names a register is that register's number (R82). -/
theorem ofNumber_eq_some {n : Nat} {r : Reg} (h : Reg.ofNumber n = some r) : n = r.number := by
  unfold Reg.ofNumber at h
  split at h <;> cases h <;> rfl

/-- Each register's form stands for opcode `op` with the arguments `args` of the register's number. -/
def StandsFor (op : Opcode) (args : Nat → Args) (form : Reg → Instr) : Prop :=
  ∀ r, (form r).toRecord = ⟨op, args r.number⟩

/-- Each accepted pair of registers stands for opcode `op` with the arguments `args` of the two numbers. -/
def PairStandsFor (op : Opcode) (args : Nat → Nat → Args) (form : Reg → Reg → Except DecodeReject Instr) : Prop :=
  ∀ a b i, form a b = .ok i → i.toRecord = ⟨op, args a.number b.number⟩

/-- The arguments of format R. -/
abbrev argsR (n : Nat) : Args := .one (.reg n)
/-- The arguments of format RN. -/
abbrev argsRN (v : Word) (n : Nat) : Args := .two (.reg n) (.num v.toInt)
/-- The arguments of format RR. -/
abbrev argsRR (n m : Nat) : Args := .two (.reg n) (.reg m)
/-- The arguments of format RI. -/
abbrev argsRI (n m : Nat) : Args := .two (.reg n) (.ind m)

theorem addForm_record : StandsFor .add argsR addForm := fun r => by cases r <;> rfl
theorem incForm_record : StandsFor .inc argsR incForm := fun r => by cases r <;> rfl
theorem decForm_record : StandsFor .dec argsR decForm := fun r => by cases r <;> rfl
theorem outForm_record : StandsFor .out argsR outForm := fun r => by cases r <;> rfl
theorem inForm_record : StandsFor .inp argsR inForm := fun r => by cases r <;> rfl

theorem movImmForm_record (v : Word) : StandsFor .mov (argsRN v) (movImmForm v) := fun r => by cases r <;> rfl
theorem loadImmForm_record (v : Word) : StandsFor .load (argsRN v) (loadImmForm v) := fun r => by cases r <;> rfl
theorem storeImmForm_record (v : Word) : StandsFor .store (argsRN v) (storeImmForm v) := fun r => by cases r <;> rfl
theorem cmpImmForm_record (v : Word) : StandsFor .cmp (argsRN v) (cmpImmForm v) := fun r => by cases r <;> rfl

theorem movPair_record : PairStandsFor .mov argsRR movPair := fun a b _ h => by cases a <;> cases b <;> cases h <;> rfl
theorem subPair_record : PairStandsFor .sub argsRR subPair := fun a b _ h => by cases a <;> cases b <;> cases h <;> rfl
theorem idivPair_record : PairStandsFor .idiv argsRR idivPair := fun a b _ h => by cases a <;> cases b <;> cases h <;> rfl
theorem divPair_record : PairStandsFor .div argsRR divPair := fun a b _ h => by cases a <;> cases b <;> cases h <;> rfl
theorem mulPair_record : PairStandsFor .mul argsRR mulPair := fun a b _ h => by cases a <;> cases b <;> cases h <;> rfl
theorem cmpPair_record : PairStandsFor .cmp argsRR cmpPair := fun a b _ h => by cases a <;> cases b <;> cases h <;> rfl
theorem loadPair_record : PairStandsFor .load argsRI loadPair := fun a b _ h => by cases a <;> cases b <;> cases h <;> rfl
theorem storePair_record : PairStandsFor .store argsRI storePair := fun a b _ h => by cases a <;> cases b <;> cases h <;> rfl

/-! ## What each shape accepts is the record of the form it answers -/

theorem oneRegister_record {op : Opcode} {args : Nat → Args} {form : Reg → Instr} {n : Nat} {i : Instr}
    (hf : StandsFor op args form) (h : oneRegister n form = .ok i) : i.toRecord = ⟨op, args n⟩ := by
  obtain ⟨r, hr, rfl⟩ := oneRegister_eq_ok h
  rw [ofNumber_eq_some hr, hf r]

theorem twoRegisters_record {op : Opcode} {args : Nat → Nat → Args} {form : Reg → Reg → Except DecodeReject Instr}
    {n m : Nat} {i : Instr} (hf : PairStandsFor op args form) (h : twoRegisters n m form = .ok i) :
    i.toRecord = ⟨op, args n m⟩ := by
  obtain ⟨a, b, ha, hb, hab⟩ := twoRegisters_eq_ok h
  rw [ofNumber_eq_some ha, ofNumber_eq_some hb, hf a b i hab]

theorem shapeR_record {op : Opcode} {args : Args} {form : Reg → Instr} {i : Instr} (hf : StandsFor op argsR form)
    (h : shapeR args form = .ok i) : recordNormal ⟨op, args⟩ = i.toRecord := by
  unfold shapeR at h
  split at h
  · exact (oneRegister_record hf h).symm
  · contradiction

theorem shapeRR_record {op : Opcode} {args : Args} {form : Reg → Reg → Except DecodeReject Instr} {i : Instr}
    (hf : PairStandsFor op argsRR form) (h : shapeRR args form = .ok i) : recordNormal ⟨op, args⟩ = i.toRecord := by
  unfold shapeRR at h
  split at h
  · exact (twoRegisters_record hf h).symm
  · contradiction

theorem shapeRNorRR_record {op : Opcode} {args : Args} {imm : Word → Reg → Instr}
    {form : Reg → Reg → Except DecodeReject Instr} {i : Instr} (hi : ∀ v, StandsFor op (argsRN v) (imm v))
    (hf : PairStandsFor op argsRR form) (h : shapeRNorRR args imm form = .ok i) :
    recordNormal ⟨op, args⟩ = i.toRecord := by
  unfold shapeRNorRR at h
  split at h
  · exact (oneRegister_record (hi _) h).symm
  · exact (twoRegisters_record hf h).symm
  · contradiction

theorem shapeRNorRI_record {op : Opcode} {args : Args} {imm : Word → Reg → Instr}
    {form : Reg → Reg → Except DecodeReject Instr} {i : Instr} (hi : ∀ v, StandsFor op (argsRN v) (imm v))
    (hf : PairStandsFor op argsRI form) (h : shapeRNorRI args imm form = .ok i) :
    recordNormal ⟨op, args⟩ = i.toRecord := by
  unfold shapeRNorRI at h
  split at h
  · exact (oneRegister_record (hi _) h).symm
  · exact (twoRegisters_record hf h).symm
  · contradiction

theorem shapeJ_record {op : Opcode} {args : Args} {form : Word → Instr} {i : Instr}
    (hf : ∀ v : Word, (form v).toRecord = ⟨op, .one (.num v.toInt)⟩) (h : shapeJ args form = .ok i) :
    recordNormal ⟨op, args⟩ = i.toRecord := by
  unfold shapeJ at h
  split at h
  · cases h
    exact (hf _).symm
  · contradiction

/-- A record the decoder accepts is, its numbers taken through `wrap16`, the record of the form it decodes to (R90, R100). -/
theorem recordNormal_eq_of_decodeRecord {r : Record} {i : Instr} (h : decodeRecord r = .ok i) :
    recordNormal r = i.toRecord := by
  obtain ⟨op, args⟩ := r
  cases op with
  | mov => exact shapeRNorRR_record movImmForm_record movPair_record h
  | load => exact shapeRNorRI_record loadImmForm_record loadPair_record h
  | store => exact shapeRNorRI_record storeImmForm_record storePair_record h
  | add => exact shapeR_record addForm_record h
  | sub => exact shapeRR_record subPair_record h
  | idiv => exact shapeRR_record idivPair_record h
  | div => exact shapeRR_record divPair_record h
  | mul => exact shapeRR_record mulPair_record h
  | inc => exact shapeR_record incForm_record h
  | dec => exact shapeR_record decForm_record h
  | cmp => exact shapeRNorRR_record cmpImmForm_record cmpPair_record h
  | jmp => exact shapeJ_record (fun _ => rfl) h
  | jz => exact shapeJ_record (fun _ => rfl) h
  | jnz => exact shapeJ_record (fun _ => rfl) h
  | halt => cases args <;> cases h; rfl
  | out => exact shapeR_record outForm_record h
  | inp => exact shapeR_record inForm_record h

/-- A record that is none of the 73 forms is a miss. -/
theorem decodeRecord_eq_error {r : Record} (h : ∀ i : Instr, recordNormal r ≠ i.toRecord) :
    ∃ e, decodeRecord r = .error e := by
  cases hd : decodeRecord r with
  | error e => exact ⟨e, rfl⟩
  | ok i => exact absurd (recordNormal_eq_of_decodeRecord hd) (h i)

/-! ## What a miss does (R157, R163, R273) -/

/-- Resolution of a miss is DecodeError, whatever the ground of the miss and the zero flag. -/
theorem resolve_of_miss {item : Item} {e : DecodeReject} (h : decodeItem item = .error e) (z : Bool) :
    resolve item z = .error (.fatal (.decodeError item)) := by
  unfold resolve
  rw [h]

/-- `DECODE` on an instruction whose resolution raises. -/
theorem fireDecode_raises {s : State} {item : Item} {c : Condition} (hi : s.ir = some item)
    (hr : resolve item s.z = .error c) : fireDecode s = (s.takeOperand item.lastNumber).raise c := by
  simp only [fireDecode, hi, hr, State.orRaise]

/-- A whole step from a boundary that fetches a miss. -/
theorem step_of_miss {s : State} {item : Item} {e : DecodeReject} (hs : s.status = .running) (hb : s.AtBoundary)
    (hi : imemRead s.imem s.pc = some item) (h : decodeItem item = .error e) :
    step s = .next (((s.fetched item).takeOperand item.lastNumber).raise (.fatal (.decodeError item))) := by
  rw [step, if_pos hs, if_pos hb]
  simp only [runInstruction, hi, h]

/-- Settles O6: a record outside the 73 forms is a miss, and a miss raises DecodeError in the line and in the step. -/
theorem recordOutsideFormsIsDecodeError : Obligations.RecordOutsideFormsIsDecodeError := by
  intro s r hr
  obtain ⟨e, he⟩ := decodeRecord_eq_error hr
  have hmiss : decodeItem (.record r) = .error e := he
  refine ⟨fun hir => ?_, fun hs hb hi => ⟨_, step_of_miss hs hb hi hmiss, ?_⟩⟩
  · rw [fireDecode_raises hir (resolve_of_miss hmiss s.z), raise_status, Condition.status]
  · rw [raise_status, Condition.status]

/-- The six register pairs of R105 decode to no form. -/
theorem decodeItem_absentPair {op : Opcode} {a b : Nat}
    (h : (op, a, b) ∈ ([(.mul, 1, 3), (.mul, 2, 3), (.mul, 3, 2), (.cmp, 2, 1), (.cmp, 3, 2), (.cmp, 3, 1)] :
      List (Opcode × Nat × Nat))) :
    decodeItem (.record ⟨op, .two (.reg a) (.reg b)⟩) = .error .absentPair := by
  simp only [List.mem_cons, Prod.mk.injEq, List.not_mem_nil, or_false] at h
  obtain ⟨rfl, rfl, rfl⟩ | ⟨rfl, rfl, rfl⟩ | ⟨rfl, rfl, rfl⟩ | ⟨rfl, rfl, rfl⟩ | ⟨rfl, rfl, rfl⟩ | ⟨rfl, rfl, rfl⟩ := h <;>
    rfl

/-- Settles O7: each of the six pairs is a miss, whose resolution does not look at the zero flag. -/
theorem absentPairsRaiseDecodeError : Obligations.AbsentPairsRaiseDecodeError :=
  fun _ _ _ h z => resolve_of_miss (decodeItem_absentPair h) z

end Sys2Proof.Encoding
end

section
/-! PROOF. Settles the statements of 40_alu_lines_tick.md section 1 on the ALU and its operation line (O29, O30, O31, O33). The one
idea: `wrap16` carries integer arithmetic to 16-bit arithmetic, so it does not matter which reading of the operands is wrapped. -/

namespace Sys2Proof.Alu

open Sys2Proof.Machine

/-- Reduction modulo `2 ^ w` carries differences too, as `BitVec.ofInt_add` and `BitVec.ofInt_mul` say of the other two (R11). -/
theorem ofInt_sub {w : Nat} (m n : Int) : BitVec.ofInt w (m - n) = BitVec.ofInt w m - BitVec.ofInt w n := by
  rw [sub_eq_add_neg, BitVec.ofInt_add, BitVec.ofInt_neg, ← sub_eq_add_neg]

/-! ## The seven operations (R120 to R125) -/

theorem alu_add_eq (a b : Word) : alu .add a b = some (a + b) := by
  rw [alu_add, wrap16, BitVec.ofInt_add, BitVec.ofInt_toInt, BitVec.ofInt_toInt]
theorem alu_sub_eq (a b : Word) : alu .sub a b = some (a - b) := by
  rw [alu_sub, wrap16, ofInt_sub, BitVec.ofInt_toInt, BitVec.ofInt_toInt]
theorem alu_mul_eq (a b : Word) : alu .mul a b = some (a * b) := by
  rw [alu_mul, wrap16, BitVec.ofInt_mul, BitVec.ofInt_toInt, BitVec.ofInt_toInt]
theorem alu_inc_eq (a b : Word) : alu .inc a b = some (a + 1) := by
  rw [alu_inc, wrap16, BitVec.ofInt_add, BitVec.ofInt_toInt]
  rfl
theorem alu_dec_eq (a b : Word) : alu .dec a b = some (a - 1) := by
  rw [alu_dec, wrap16, ofInt_sub, BitVec.ofInt_toInt]
  rfl

theorem alu_div {a b : Word} (h : b.toInt ≠ 0) : alu .div a b = some (wrap16 (Int.fdiv a.toInt b.toInt)) := by
  simp [alu, aluExact, h, floorDiv]
theorem alu_idiv {a b : Word} (h : b.toInt ≠ 0) :
    alu .idiv a b = some (wrap16 (a.toInt - b.toInt * Int.fdiv a.toInt b.toInt)) := by
  simp [alu, aluExact, h, floorMod, floorDiv]

/-- DIV and IDIV have no result for the divisor 0 (R125). -/
theorem alu_of_zero_divisor {op : AluOp} {a b : Word} (hop : op = .div ∨ op = .idiv) (hb : b.toInt = 0) :
    alu op a b = none := by
  obtain rfl | rfl := hop <;> simp [alu, aluExact, hb]

/-- The zero flag of a word is whether it is 0 (R126). -/
theorem zeroFlag_eq_decide (r : Word) : zeroFlag r = decide (r = 0) := rfl

/-- Settles O30: on either reading the result is the 16-bit sum, difference or product. -/
theorem addSubMulWrap : Obligations.AddSubMulWrap := by
  refine ⟨fun a b => ⟨alu_add a b, ?_, alu_sub a b, ?_, alu_mul a b, ?_⟩, by decide⟩
  · simp only [alu_add_eq, BitVec.ofNat_add, BitVec.ofNat_toNat, BitVec.setWidth_eq]
  · simp only [alu_sub_eq, wrap16, ofInt_sub, BitVec.ofInt_natCast, BitVec.ofNat_toNat, BitVec.setWidth_eq]
  · simp only [alu_mul_eq, BitVec.ofNat_mul, BitVec.ofNat_toNat, BitVec.setWidth_eq]

theorem zeroFlag_add_one_iff (a : Word) : zeroFlag (a + 1) = true ↔ a.toInt = -1 := by
  rw [zeroFlag_eq_decide, decide_eq_true_iff, ← eq_neg_iff_add_eq_zero, ← BitVec.toInt_inj]
  rfl

theorem zeroFlag_sub_one_iff (a : Word) : zeroFlag (a - 1) = true ↔ a.toInt = 1 := by
  rw [zeroFlag_eq_decide, decide_eq_true_iff, sub_eq_zero, ← BitVec.toInt_inj]
  rfl

/-- Settles O31: neither operation looks at `b`, and 0 is reached from the one word whose neighbour it is. -/
theorem incDecIgnoreSecondOperand : Obligations.IncDecIgnoreSecondOperand :=
  ⟨fun a b => ⟨alu_inc_eq a b, alu_dec_eq a b, zeroFlag_add_one_iff a, zeroFlag_sub_one_iff a⟩,
    fun b => ⟨alu_inc_eq 32767 b, alu_dec_eq (wrap16 (-32768)) b⟩⟩

/-! ## The operation line (R149) -/

/-- `ALU_OP` where the ALU has a result: `res` and `Z` are set and nothing else changes. -/
theorem fireAluOp_of_some {s : State} {op : AluOp} {r : Word} (h : alu op s.op1 s.op2 = some r) :
    fireAluOp op s = { s with res := r, z := decide (r = 0) } := by
  simp only [fireAluOp, State.operate, h, State.orRaise, id, zeroFlag_eq_decide]

/-- `ALU_OP` where the ALU has none: ArithmeticError with the dividend, and nothing else changes (R125, R280). -/
theorem fireAluOp_of_none {s : State} {op : AluOp} (h : alu op s.op1 s.op2 = none) :
    fireAluOp op s = s.raise (.fatal (.arithmeticError op s.op1)) := by
  simp only [fireAluOp, State.operate, h, State.orRaise]

/-- Settles O29: the line stores the ALU's answer, operation by operation. -/
theorem aluOperationLine : Obligations.AluOperationLine := fun s =>
  ⟨fireAluOp_of_some (alu_add s.op1 s.op2), fireAluOp_of_some (alu_sub s.op1 s.op2),
    fireAluOp_of_some (alu_mul s.op1 s.op2), fireAluOp_of_some (alu_inc s.op1 s.op2),
    fireAluOp_of_some (alu_dec s.op1 s.op2),
    fun hb => ⟨fireAluOp_of_some (alu_div hb), fireAluOp_of_some (alu_idiv hb)⟩,
    fun hb => ⟨fireAluOp_of_none (alu_of_zero_divisor (.inl rfl) hb), fireAluOp_of_none (alu_of_zero_divisor (.inr rfl) hb)⟩⟩

/-- Settles O33: the line only raises, and a state that has raised stops the later lines. -/
theorem divisionByZeroEndsTheTick : Obligations.DivisionByZeroEndsTheTick := by
  intro s op hop hz
  have hb : s.op2.toInt = 0 := by rw [hz]; rfl
  rw [fireAluOp_of_none (alu_of_zero_divisor hop hb)]
  exact ⟨rfl, raise_res _ _, raise_z _ _, fun w ls => fireLines_stopped (raise_stops _ _)⟩

end Sys2Proof.Alu
end

section
/-! PROOF. Settles the statements of 40_alu_lines_tick.md section 4 on the muxes, the register latch, the memory lines and the
operand-select lines (O35, O36). -/

namespace Sys2Proof.Lines

open Sys2Proof.Machine

/-! ## mux1 and `LATCH_REG` (R140, R148) -/

/-- mux1 raises only where it presents the input device (R140). -/
theorem mux1Sel_of_error {s : State} {c : Condition} (h : s.mux1 = .error c) : s.mux1Sel = .input := by
  unfold State.mux1 at h
  split at h
  case h_5 hsel => exact hsel
  all_goals contradiction

theorem mux1_alu {s : State} (h : s.mux1Sel = .alu) : s.mux1 = .ok s.res := by simp only [State.mux1, h]
theorem mux1_or {s : State} (h : s.mux1Sel = .or) : s.mux1 = .ok s.orReg := by simp only [State.mux1, h]
theorem mux1_dr {s : State} (h : s.mux1Sel = .dr) : s.mux1 = .ok s.dr := by simp only [State.mux1, h]
theorem mux1_mux2 {s : State} (h : s.mux1Sel = .mux2) : s.mux1 = .ok s.mux2 := by simp only [State.mux1, h]
theorem mux1_input {s : State} (h : s.mux1Sel = .input) : s.mux1 = inHead s.inQ := by simp only [State.mux1, h]

/-- The peek of a head token outside the accepted range (R262). -/
theorem inHead_outside {c : Nat} {q : List Nat} (h : (c : Int) < -128 ∨ 127 < (c : Int)) :
    inHead (c :: q) = .error (.fatal (.outOfRangeInput c)) := if_pos h

/-- The peek of a head token in the accepted range (R262). -/
theorem inHead_inside {c : Nat} {q : List Nat} (h : ¬((c : Int) < -128 ∨ 127 < (c : Int))) :
    inHead (c :: q) = .ok (wrap16 c) := if_neg h

theorem fireLatchReg_of_ok {s : State} {l : LatchSel} {v : Word} (h : s.mux1 = .ok v) :
    fireLatchReg l s = s.setReg l.reg v := by
  simp only [fireLatchReg, h, State.orRaise]

theorem fireLatchReg_of_error {s : State} {l : LatchSel} {c : Condition} (h : s.mux1 = .error c) :
    fireLatchReg l s = s.raise c := by
  simp only [fireLatchReg, h, State.orRaise]

/-- A register write sets that register and no other (R22). -/
theorem regsSet_setReg (s : State) (r : Reg) (v : Word) : RegsSet s (s.setReg r v) r v :=
  ⟨by rw [reg_setReg, if_pos rfl], fun q hq => by rw [reg_setReg, if_neg hq]⟩

/-! ## No other line writes a register (R148)

A line is a strobe or carries a value, its effect may raise, and what it writes is a field that is no register. -/

theorem sameRegs_orRaise {α : Type} {s t : State} {r : Except Condition α} {k : α → State} (ht : SameRegs s t)
    (hk : ∀ v, r = .ok v → SameRegs s (k v)) : SameRegs s (t.orRaise r k) := by
  cases r with
  | ok v => exact hk v rfl
  | error c => exact fun q => (reg_raise t c q).trans (ht q)

theorem sameRegs_strobe {b : Bool} {f : State → State} {s : State} (h : SameRegs s (f s)) : SameRegs s (strobe b f s) := by
  cases b with
  | true => exact h
  | false => exact fun _ => rfl

theorem sameRegs_carried {α : Type} {v : Option α} {f : α → State → State} {s : State} (h : ∀ a, SameRegs s (f a s)) :
    SameRegs s (carried v f s) := by
  cases v with
  | some a => exact h a
  | none => exact fun _ => rfl

theorem sameRegs_fireFetch (s : State) : SameRegs s (fireFetch s) := by
  unfold fireFetch
  split
  · exact reg_congr rfl rfl rfl
  · exact reg_raise _ _

theorem sameRegs_fireDecode (s : State) : SameRegs s (fireDecode s) := by
  unfold fireDecode
  split
  · exact sameRegs_orRaise (reg_takeOperand s _) fun _ _ => reg_congr rfl rfl rfl
  · exact fun _ => rfl

theorem sameRegs_fireMemRead (s : State) : SameRegs s (fireMemRead s) := by
  unfold fireMemRead
  split
  · exact reg_congr rfl rfl rfl
  · exact reg_raise _ _

theorem sameRegs_fireMemWrite (s : State) : SameRegs s (fireMemWrite s) := by
  unfold fireMemWrite
  split
  · exact reg_congr rfl rfl rfl
  · exact reg_raise _ _

theorem sameRegs_fireAluOp (op : AluOp) (s : State) : SameRegs s (fireAluOp op s) :=
  sameRegs_orRaise (fun _ => rfl) fun t ht => by
    obtain ⟨r, _, rfl⟩ := operate_eq_ok ht
    exact reg_congr rfl rfl rfl

/-- Every line but `LATCH_REG` keeps the registers, under any micro-word. -/
theorem sameRegs_fireLine (w : MicroWord) {l : Line} (s : State) (hl : l ≠ .latchReg) : SameRegs s (fireLine w l s) := by
  cases l with
  | latchReg => exact absurd rfl hl
  | fetch => exact sameRegs_strobe (sameRegs_fireFetch s)
  | decode => exact sameRegs_strobe (sameRegs_fireDecode s)
  | memRead => exact sameRegs_strobe (sameRegs_fireMemRead s)
  | memWrite => exact sameRegs_strobe (sameRegs_fireMemWrite s)
  | aluOp => exact sameRegs_carried fun op => sameRegs_fireAluOp op s
  | output | inputAdvance =>
    exact sameRegs_strobe (sameRegs_orRaise (fun _ => rfl) fun _ _ => reg_congr rfl rfl rfl)
  | latchOr | latchAr | latchDr | latchIp => exact sameRegs_strobe (reg_congr rfl rfl rfl)
  | selMux1 | selMux2 | selMux3 | selIp | selMpc | selOp1 | selOp2 =>
    exact sameRegs_carried fun _ => reg_congr rfl rfl rfl

/-- Settles O35: the latch by mux1's two outcomes, mux1 by its selection, and the other lines by what they write. -/
theorem registerLatchLine : Obligations.RegisterLatchLine := by
  refine ⟨fun s l v h => ?_, fun s l c h => ⟨mux1Sel_of_error h, fireLatchReg_of_error h⟩, fun s => ?_,
    fun w l s hl => sameRegs_fireLine w s hl⟩
  · rw [fireLatchReg_of_ok h]
    exact ⟨rfl, regsSet_setReg s l.reg v⟩
  · refine ⟨mux1_alu, mux1_or, mux1_dr, mux1_mux2, fun hsel => ?_⟩
    rw [mux1_input hsel]
    refine ⟨fun hq => by rw [hq]; rfl, fun c q hq => ?_⟩
    rw [hq]
    exact ⟨inHead_outside, inHead_inside⟩

/-! ## The memory lines (R144, R145) -/

theorem fireMemRead_inMemory {s : State} (h : InMemory s.ar) :
    fireMemRead s = { s with mo := Memory.read s.mem s.ar.toNat } := by
  have hr := memRead_eq_some (m := s.mem).2 ⟨(addressInRange_iff s.ar).2 h, rfl⟩
  simp only [fireMemRead, hr]

theorem fireMemWrite_inMemory {s : State} (h : InMemory s.ar) :
    fireMemWrite s = { s with mem := Memory.write s.mem s.ar.toNat s.mux2 } := by
  have hw := memWrite_eq_some (m := s.mem) (v := s.mux2).2 ⟨(addressInRange_iff s.ar).2 h, rfl⟩
  simp only [fireMemWrite, hw]

/-- The range check refuses the addresses outside 0 to 1023 (R63, R64). -/
theorem addressInRange_eq_false {a : Word} (h : ¬InMemory a) : addressInRange a = false :=
  Bool.eq_false_iff.2 fun ha => h ((addressInRange_iff a).1 ha)

theorem fireMemRead_outside {s : State} (h : ¬InMemory s.ar) :
    fireMemRead s = s.raise (.fatal (.memoryBoundsError s.ar)) := by
  simp only [fireMemRead, memRead_eq_none.2 (addressInRange_eq_false h)]

theorem fireMemWrite_outside {s : State} (h : ¬InMemory s.ar) :
    fireMemWrite s = s.raise (.fatal (.memoryBoundsError s.ar)) := by
  simp only [fireMemWrite, memWrite_eq_none.2 (addressInRange_eq_false h)]

/-- A write to canonical memory sets that word and no other (R145). -/
theorem memorySet_write {s t : State} {a : Nat} {v : Word} (hm : s.MemWf) (ht : t.mem = Memory.write s.mem a v) :
    MemorySet s t a v := by
  unfold MemorySet
  rw [ht]
  exact ⟨Memory.read_write_eq hm, fun _ => Memory.read_write_ne⟩

/-! ## mux2, mux3 and the operand-select lines (R141, R142, R147) -/

theorem mux2_eq {s : State} {v : Mux2Sel} (h : s.mux2Sel = v) : s.mux2 = s.reg v.reg := by rw [State.mux2, h]
theorem mux3_operand {s : State} (h : s.mux3Sel = .operand) : s.mux3 = s.decOperand := by simp only [State.mux3, h]
theorem mux3_mux2 {s : State} (h : s.mux3Sel = .mux2) : s.mux3 = s.mux2 := by simp only [State.mux3, h]

theorem fireLine_selOp1 {w : MicroWord} {s : State} {v : Op1Sel} (h : w.selOp1 = some v) :
    fireLine w .selOp1 s = { s with op1 := s.reg v.reg } := by
  simp only [fireLine, carried, h]

theorem fireLine_selOp2 {w : MicroWord} {s : State} {v : Op2Sel} (h : w.selOp2 = some v) :
    fireLine w .selOp2 s = { s with op2 := s.op2Source v } := by
  simp only [fireLine, carried, h]

/-- Settles O36: one equation per mux and per line, the memory lines by whether `AR` is in range. -/
theorem muxesAndMemoryLines : Obligations.MuxesAndMemoryLines := fun s =>
  ⟨mux2_eq, mux2_eq, mux2_eq, mux3_operand, mux3_mux2, rfl, rfl, fireMemRead_inMemory,
    fun ha => ⟨fireMemRead_outside ha, fireMemWrite_outside ha⟩,
    fun ha hm => by
      rw [fireMemWrite_inMemory ha]
      exact ⟨rfl, memorySet_write hm rfl⟩,
    fun _ _ => fireLine_selOp1,
    fun _ => ⟨fireLine_selOp2, fireLine_selOp2, fireLine_selOp2, fireLine_selOp2⟩⟩

end Sys2Proof.Lines
end

section
/-! PROOF. Settles the statements of 30_encoding.md on the decoder and the encoder (O1, O2, O3, O4, O5, O8). The argument: a word is
its six fields and nothing else, so a well-formed word and the record it carries, numbers modulo 65536, determine each other; and the
73 forms, the rows of the table and the records the decoder accepts are the same thing written three times. -/

namespace Sys2Proof.Decoding

open Sys2Proof.Machine Sys2Proof.Laws Sys2Proof.Encoding

/-! ## Numbers modulo 65536 (R83, R90) -/

theorem wrap16_toInt (n : Word) : wrap16 n.toInt = n := BitVec.ofInt_toInt

theorem argNormal_argNormal (a : Arg) : argNormal (argNormal a) = argNormal a := by
  cases a <;> simp only [argNormal, wrap16_toInt]

theorem recordNormal_recordNormal (r : Record) : recordNormal (recordNormal r) = recordNormal r := by
  obtain ⟨op, _ | _ | _⟩ := r <;> simp only [recordNormal, argNormal_argNormal]

theorem kind_argNormal (a : Arg) : (argNormal a).kind = a.kind := by cases a <;> rfl

theorem field_argNormal (a : Arg) : (argNormal a).field = a.field := by
  cases a <;> simp only [argNormal, Arg.field, wrap16_toInt]

/-- The word of a record looks at its numbers modulo 65536 only (R85). -/
theorem word_recordNormal (r : Record) : (recordNormal r).word = r.word := by
  obtain ⟨op, _ | _ | _⟩ := r <;> simp only [recordNormal, Record.word, kind_argNormal, field_argNormal]

theorem recordNormal_toRecord (i : Instr) : recordNormal i.toRecord = i.toRecord := by
  cases i <;> simp only [Instr.toRecord, recordNormal, argNormal, wrap16_toInt]

/-- Operand extraction looks at the numbers modulo 65536 only (R89). -/
theorem lastNumber_recordNormal (r : Record) : (recordNormal r).lastNumber = r.lastNumber := by
  obtain ⟨op, _ | a | ⟨a, b⟩⟩ := r
  · rfl
  · cases a <;> simp only [recordNormal, argNormal, Record.lastNumber, operandOf, wrap16_toInt]
  · cases a <;> cases b <;> simp only [recordNormal, argNormal, Record.lastNumber, operandOf, wrap16_toInt]

/-! ## The decoder on records (R90, R100) -/

/-- The decoder looks at the numbers modulo 65536 only (R90). -/
theorem decodeRecord_recordNormal (r : Record) : decodeRecord (recordNormal r) = decodeRecord r := by
  obtain ⟨op, _ | a | ⟨a, b⟩⟩ := r
  · rfl
  · cases a with
    | reg | ind => rfl
    | num v => cases op <;> simp only [recordNormal, argNormal, decodeRecord, shapeJ, operandOf, wrap16_toInt] <;> rfl
  · cases op <;> cases a <;> cases b <;>
      simp only [recordNormal, argNormal, decodeRecord, shapeRNorRR, shapeRNorRI, operandOf, wrap16_toInt] <;> rfl

/-- Each of the 73 forms is what its record decodes to (R84, R100). -/
theorem decodeRecord_toRecord (i : Instr) : decodeRecord i.toRecord = .ok i := by
  cases i <;>
    simp only [Instr.toRecord, decodeRecord, shapeRNorRR, shapeRNorRI, shapeJ, operandOf, wrap16_toInt] <;> rfl

/-- Settles O5: the decoder accepts records by their normal form, and the normal form of a form's record is itself. -/
theorem decodeRecordIffForm : Obligations.DecodeRecordIffForm := fun r i =>
  ⟨recordNormal_eq_of_decodeRecord, fun h => by
    rw [← decodeRecord_recordNormal, h, decodeRecord_toRecord]⟩

/-! ## Words and the records they carry (R85, R88) -/

/-- A word with a zero `zero` field is nothing but its other five fields (R85). -/
theorem packWord_of_fields {w : InstrWord} (hz : zeroField w = 0#7) :
    packWord (opcodeField w) (kind1Field w) (kind2Field w) (value1Field w) (value2Field w) = w := by
  rw [packWord, ← hz]
  unfold opcodeField kind1Field kind2Field zeroField value1Field value2Field
  rw [BitVec.extractLsb'_append_extractLsb'_eq_extractLsb' (rfl : 43 = 41 + 2),
    BitVec.extractLsb'_append_extractLsb'_eq_extractLsb' (rfl : 41 = 39 + 2),
    BitVec.extractLsb'_append_extractLsb'_eq_extractLsb' (rfl : 39 = 32 + 7),
    BitVec.extractLsb'_append_extractLsb'_eq_extractLsb' (rfl : 32 = 16 + 16),
    BitVec.extractLsb'_append_extractLsb'_eq_extractLsb' (rfl : 16 = 0 + 16)]
  exact BitVec.extractLsb'_eq_self

theorem number_of_ofNumber {n : Nat} {op : Opcode} (h : Opcode.ofNumber n = some op) : op.number = n := by
  unfold Opcode.ofNumber at h
  split at h <;> cases h <;> rfl

theorem exists_ofNumber {n : Nat} (h : n ≤ 16) : ∃ op, Opcode.ofNumber n = some op := by
  interval_cases n <;> exact ⟨_, rfl⟩

theorem kind_cases (k : BitVec 2) : k = 0#2 ∨ k = 1#2 ∨ k = 2#2 ∨ k = 3#2 := by
  revert k
  decide

/-- An argument field of kind 0 is absent, and no other is (R87). -/
theorem argOfField_eq_none {k : BitVec 2} {v : Word} : argOfField k v = none ↔ k = 0#2 := by
  obtain rfl | rfl | rfl | rfl := kind_cases k <;> simp [argOfField]

/-- A present argument field holds an argument of that kind and value, which a word can carry (R85, R87). -/
theorem argOfField_eq_some {k : BitVec 2} {v : Word} {a : Arg} (h : argOfField k v = some a) :
    a.kind = k ∧ a.field = v ∧ a.fitsWord = true := by
  have hself : BitVec.ofNat 16 v.toNat = v := BitVec.ofNat_toNat 16 v
  have hfit : decide (v.toNat ≤ 65535) = true := decide_eq_true (Nat.le_of_lt_succ v.isLt)
  obtain rfl | rfl | rfl | rfl := kind_cases k <;> cases h
  · exact ⟨rfl, hself, hfit⟩
  · exact ⟨rfl, wrap16_toInt v, number_wellFormed v⟩
  · exact ⟨rfl, hself, hfit⟩

/-- What well-formedness of a word says of its fields (R88). -/
theorem wordWellFormed_iff {w : InstrWord} : wordWellFormed w = true ↔
    (opcodeField w).toNat ≤ 16 ∧ zeroField w = 0#7 ∧
    (kind1Field w = 0#2 → kind2Field w = 0#2 ∧ value1Field w = 0#16) ∧
    (kind2Field w = 0#2 → value2Field w = 0#16) := by
  simp only [wordWellFormed, Bool.and_eq_true, Bool.or_eq_true, decide_eq_true_eq, and_assoc, or_iff_not_imp_left, not_not]

/-- A word that is not well formed holds no record (R88). -/
theorem ofWord_of_not_wellFormed {w : InstrWord} (h : wordWellFormed w = false) : Item.ofWord w = .malformed w := by
  rw [Item.ofWord, h, if_neg Bool.false_ne_true]

/-- A well-formed word holds a record that a word can carry, and it is the word of that record (R88). -/
theorem ofWord_of_wellFormed {w : InstrWord} (h : wordWellFormed w = true) :
    ∃ r : Record, Item.ofWord w = .record r ∧ r.fitsWord = true ∧ r.word = w := by
  obtain ⟨hop, hz, h1, h2⟩ := wordWellFormed_iff.1 h
  obtain ⟨op, hop⟩ := exists_ofNumber hop
  have hnum : BitVec.ofNat 5 op.number = opcodeField w := by
    rw [number_of_ofNumber hop]; exact BitVec.ofNat_toNat 5 _
  have hpack := packWord_of_fields hz
  rw [Item.ofWord, if_pos h, hop]
  cases ha : argOfField (kind1Field w) (value1Field w) with
  | none =>
    have hk1 := argOfField_eq_none.1 ha
    obtain ⟨hk2, hv1⟩ := h1 hk1
    rw [argOfField_eq_none.2 hk2]
    rw [hk1, hk2, hv1, h2 hk2, ← hnum] at hpack
    exact ⟨_, rfl, rfl, hpack⟩
  | some a =>
    obtain ⟨ka, va, fa⟩ := argOfField_eq_some ha
    cases hb : argOfField (kind2Field w) (value2Field w) with
    | none =>
      have hk2 := argOfField_eq_none.1 hb
      rw [hk2, h2 hk2, ← hnum, ← ka, ← va] at hpack
      exact ⟨_, rfl, fa, hpack⟩
    | some b =>
      obtain ⟨kb, vb, fb⟩ := argOfField_eq_some hb
      rw [← hnum, ← ka, ← va, ← kb, ← vb] at hpack
      exact ⟨_, rfl, Bool.and_eq_true_iff.2 ⟨fa, fb⟩, hpack⟩

/-- An argument a word can carry is carried, its number modulo 65536 (R83, R85). -/
theorem carried_argNormal {a : Arg} (h : a.fitsWord = true) : Carried (argNormal a) := by
  cases a with
  | reg n => exact carried_reg (Nat.lt_succ_of_le (of_decide_eq_true h))
  | num v => exact carried_num _
  | ind n => exact carried_ind (Nat.lt_succ_of_le (of_decide_eq_true h))

/-- The word of a record that fits holds that record, its numbers modulo 65536 (R88). -/
theorem ofWord_word {r : Record} (h : r.fitsWord = true) : Item.ofWord r.word = .record (recordNormal r) := by
  rw [← word_recordNormal]
  obtain ⟨op, _ | a | ⟨a, b⟩⟩ := r
  · exact ofWord_none op
  · exact ofWord_one op (carried_argNormal h)
  · obtain ⟨ha, hb⟩ := Bool.and_eq_true_iff.1 h
    exact ofWord_two op (carried_argNormal ha) (carried_argNormal hb)

/-- A word that holds a record is well formed, and it is the word of that record. -/
theorem word_of_ofWord {w : InstrWord} {r : Record} (h : Item.ofWord w = .record r) :
    wordWellFormed w = true ∧ r.word = w := by
  cases hw : wordWellFormed w with
  | false => rw [ofWord_of_not_wellFormed hw] at h; cases h
  | true =>
    obtain ⟨r', hr', _, hword⟩ := ofWord_of_wellFormed hw
    cases hr'.symm.trans h
    exact ⟨rfl, hword⟩

/-- A word that decodes holds a record that decodes. -/
theorem ofWord_of_decode {w : InstrWord} {i : Instr} (h : decode w = .ok i) :
    ∃ r, Item.ofWord w = .record r ∧ decodeRecord r = .ok i := by
  unfold decode at h
  cases hw : Item.ofWord w with
  | record r => rw [hw] at h; exact ⟨r, rfl, h⟩
  | malformed v => rw [hw] at h; cases h

/-- Settles O4: the record is the one the word holds; another record with that word is held by it too, up to its numbers. -/
theorem recordOfWellFormedWord : Obligations.RecordOfWellFormedWord := by
  refine fun w => ⟨fun hw => ?_, fun hw => ⟨ofWord_of_not_wellFormed hw, fun i hi => ?_⟩⟩
  · obtain ⟨r, hr, hfit, hword⟩ := ofWord_of_wellFormed hw
    refine ⟨r, hr, hfit, hword, fun r' hfit' hword' => ?_⟩
    have hr' := ofWord_word hfit'
    rw [hword', hr] at hr'
    cases hr'
    exact (recordNormal_recordNormal r').symm
  · obtain ⟨r, hr, _⟩ := ofWord_of_decode hi
    rw [ofWord_of_not_wellFormed hw] at hr
    cases hr

/-! ## The encoder and the decoder (O1, O2) -/

theorem fitsWord_toRecord (i : Instr) : i.toRecord.fitsWord = true := by
  cases i <;> simp [Instr.toRecord, Record.fitsWord, Arg.fitsWord, number_wellFormed]

/-- What a word can carry is in the loader's range (R83). -/
theorem wellFormed_of_fitsWord {r : Record} (h : r.fitsWord = true) : r.wellFormed = true := by
  have harg : ∀ {a : Arg}, a.fitsWord = true → a.wellFormed = true := by
    rintro (n | v | n) ha
    · rfl
    · exact ha
    · rfl
  obtain ⟨op, _ | a | ⟨a, b⟩⟩ := r
  · rfl
  · exact harg h
  · obtain ⟨ha, hb⟩ := Bool.and_eq_true_iff.1 h
    exact Bool.and_eq_true_iff.2 ⟨harg ha, harg hb⟩

theorem decode_encode (i : Instr) : decode (encode i) = .ok i := by
  rw [decode, encode, ofWord_word (fitsWord_toRecord i), recordNormal_toRecord]
  exact decodeRecord_toRecord i

/-- Settles O1: a form's record fits a word, and the word's record decodes to the form. -/
theorem decodeEncodeRoundTrip : Obligations.DecodeEncodeRoundTrip := fun i =>
  ⟨wellFormed_of_fitsWord (fitsWord_toRecord i), decode_encode i⟩

/-- Settles O2: the word is the word of its record, and that is the word of the record's normal form, the form's record. -/
theorem encodeDecodeRoundTrip : Obligations.EncodeDecodeRoundTrip := fun w i h => by
  obtain ⟨r, hr, hd⟩ := ofWord_of_decode h
  obtain ⟨_, hword⟩ := word_of_ofWord hr
  rw [encode, ← recordNormal_eq_of_decodeRecord hd, word_recordNormal, hword]

/-- Settles O8: each sample word is the word of its form, field by field. -/
theorem sampleWordsDecode : Obligations.SampleWordsDecode := by
  unfold Obligations.SampleWordsDecode
  decide

end Sys2Proof.Decoding
end

section
/-! PROOF. Settles the statement on the table of match and mask (O3): a row that takes a word gives the form whose word it is, and some
row takes the word of every form. -/

namespace Sys2Proof.Decoding

open Sys2Proof.Machine Sys2Proof.Laws Sys2Proof.Encoding

/-! ## The three masks of R100 -/

/-- Every bit is fixed. -/
abbrev maskAll : InstrWord := 0xFFFFFFFFFFFF#48
/-- Every bit but the second value field, which holds the operand (MOV, LOAD, STORE, CMP). -/
abbrev maskValue1 : InstrWord := 0xFFFFFFFF0000#48
/-- Every bit but the first value field, which holds the operand (JMP, JZ, JNZ). -/
abbrev maskValue2 : InstrWord := 0xFFFF0000FFFF#48

/-- The operand in the second value field. -/
abbrev inValue2 (n : Word) : InstrWord := n.setWidth 48
/-- The operand in the first value field. -/
abbrev inValue1 (n : Word) : InstrWord := n.setWidth 48 <<< 16

theorem split_value2 (w : InstrWord) : w &&& maskValue1 ||| inValue2 (value2Field w) = w := by
  apply BitVec.eq_of_getLsbD_eq
  intro i hi
  simp only [value2Field, inValue2, maskValue1, BitVec.getLsbD_or, BitVec.getLsbD_and, BitVec.getLsbD_setWidth, BitVec.getLsbD_extractLsb']
  interval_cases i <;> simp

theorem split_value1 (w : InstrWord) : w &&& maskValue2 ||| inValue1 (value1Field w) = w := by
  apply BitVec.eq_of_getLsbD_eq
  intro i hi
  simp only [value1Field, inValue1, maskValue2, BitVec.getLsbD_or, BitVec.getLsbD_and, BitVec.getLsbD_shiftLeft, BitVec.getLsbD_setWidth, BitVec.getLsbD_extractLsb']
  interval_cases i <;> simp

theorem packWord_value2 (op : BitVec 5) (k1 k2 : BitVec 2) (v n : Word) :
    packWord op k1 k2 v n = packWord op k1 k2 v 0#16 ||| inValue2 n := by
  simp only [packWord, inValue2]
  apply BitVec.eq_of_getLsbD_eq
  intro i hi
  simp only [BitVec.getLsbD_or, BitVec.getLsbD_setWidth, BitVec.getLsbD_append]
  by_cases h : i < 16
  · simp [h, hi]
  · simp [h, BitVec.getLsbD_of_ge n i (Nat.le_of_not_lt h)]

theorem packWord_value1 (op : BitVec 5) (k1 k2 : BitVec 2) (n : Word) :
    packWord op k1 k2 n 0#16 = packWord op k1 k2 0#16 0#16 ||| inValue1 n := by
  simp only [packWord, inValue1]
  apply BitVec.eq_of_getLsbD_eq
  intro i hi
  simp only [BitVec.getLsbD_or, BitVec.getLsbD_shiftLeft, BitVec.getLsbD_setWidth, BitVec.getLsbD_append]
  by_cases h : i < 16
  · simp [h, hi]
  · by_cases h' : i - 16 < 16
    · simp [h, h', show i < 48 from hi, show i - 16 < 48 by omega]
    · simp [h, h', BitVec.getLsbD_of_ge n (i - 16) (Nat.le_of_not_lt h')]

/-! ## A row that takes a word is the row of its form -/

/-- Every word the row takes is the word of the form the row makes of it. -/
def RowSound (row : TableRow) : Prop := ∀ w : InstrWord, w &&& row.mask = row.pattern → encode (row.make w) = w

theorem rowSound_all {i : Instr} {p : InstrWord} (h : encode i = p) : RowSound ⟨p, maskAll, fun _ => i⟩ := by
  intro w hw
  have hall : w &&& maskAll = w := BitVec.and_allOnes
  rw [hall] at hw
  exact h.trans hw.symm

theorem rowSound_value2 {f : Word → Instr} {p : InstrWord} (h : ∀ n, encode (f n) = p ||| inValue2 n) :
    RowSound ⟨p, maskValue1, fun w => f (value2Field w)⟩ := by
  intro w (hw : _ &&& _ = p)
  exact (h _).trans (by rw [← hw, split_value2])

theorem rowSound_value1 {f : Word → Instr} {p : InstrWord} (h : ∀ n, encode (f n) = p ||| inValue1 n) :
    RowSound ⟨p, maskValue2, fun w => f (value1Field w)⟩ := by
  intro w (hw : _ &&& _ = p)
  exact (h _).trans (by rw [← hw, split_value1])

/-! ## The words of the forms with an operand (formats RN and J of R84) -/

/-- The word of a form with a register and a number. -/
theorem encode_value2 {i : Instr} {op : Opcode} {k : Nat} {n : Word} {p : InstrWord}
    (h : i.toRecord = ⟨op, .two (.reg k) (.num n.toInt)⟩)
    (hp : packWord (BitVec.ofNat 5 op.number) 1#2 2#2 (BitVec.ofNat 16 k) 0#16 = p) : encode i = p ||| inValue2 n := by
  rw [← hp, encode, h, ← packWord_value2]
  simp only [Record.word, Arg.kind, Arg.field, wrap16_toInt]

/-- The word of a branch. -/
theorem encode_value1 {i : Instr} {op : Opcode} {n : Word} {p : InstrWord} (h : i.toRecord = ⟨op, .one (.num n.toInt)⟩)
    (hp : packWord (BitVec.ofNat 5 op.number) 2#2 0#2 0#16 0#16 = p) : encode i = p ||| inValue1 n := by
  rw [← hp, encode, h, ← packWord_value1]
  simp only [Record.word, Arg.kind, Arg.field, wrap16_toInt]

theorem rows1_sound : ∀ row ∈ opcodeTable1, RowSound row := by
  intro row h
  fin_cases h
  any_goals exact rowSound_all rfl
  all_goals exact rowSound_value2 fun _ => encode_value2 rfl rfl

theorem rows2_sound : ∀ row ∈ opcodeTable2, RowSound row := by
  intro row h
  fin_cases h
  all_goals exact rowSound_all rfl

theorem rows3_sound : ∀ row ∈ opcodeTable3, RowSound row := by
  intro row h
  fin_cases h
  any_goals exact rowSound_all rfl
  any_goals exact rowSound_value2 fun _ => encode_value2 rfl rfl
  all_goals exact rowSound_value1 fun _ => encode_value1 rfl rfl

theorem rows_sound : ∀ row ∈ opcodeTable, RowSound row := by
  simp only [opcodeTable, List.mem_append]
  rintro row ((h | h) | h)
  · exact rows1_sound row h
  · exact rows2_sound row h
  · exact rows3_sound row h

/-! ## Every form has its row -/

/-- Some row of the table takes the word. -/
def Taken (w : InstrWord) : Prop := (opcodeTable.any fun row => w &&& row.mask == row.pattern) = true

theorem taken_of_row {w : InstrWord} {row : TableRow} (k : Nat) (hk : opcodeTable[k]? = some row)
    (h : w &&& row.mask = row.pattern) : Taken w :=
  List.any_eq_true.2 ⟨row, List.mem_of_getElem? hk, beq_iff_eq.2 h⟩

theorem masked_value2 {w p : InstrWord} {n : Word} (hw : w = p ||| inValue2 n) (hp : p &&& maskValue1 = p) :
    w &&& maskValue1 = p := by
  have hn : inValue2 n &&& maskValue1 = 0#48 := by
    apply BitVec.eq_of_getLsbD_eq
    intro i hi
    simp only [inValue2, maskValue1, BitVec.getLsbD_and, BitVec.getLsbD_setWidth]
    interval_cases i <;> simp
  rw [hw, BitVec.and_comm, BitVec.and_or_distrib_left, BitVec.and_comm, hp, BitVec.and_comm, hn, BitVec.or_zero]

theorem masked_value1 {w p : InstrWord} {n : Word} (hw : w = p ||| inValue1 n) (hp : p &&& maskValue2 = p) :
    w &&& maskValue2 = p := by
  have hn : inValue1 n &&& maskValue2 = 0#48 := by
    apply BitVec.eq_of_getLsbD_eq
    intro i hi
    simp only [inValue1, maskValue2, BitVec.getLsbD_and, BitVec.getLsbD_shiftLeft, BitVec.getLsbD_setWidth]
    interval_cases i <;> simp
  rw [hw, BitVec.and_comm, BitVec.and_or_distrib_left, BitVec.and_comm, hp, BitVec.and_comm, hn, BitVec.or_zero]

/-- The word of each form is taken by a row (R100): the forms with an operand by the row of their number, the others by the row
that is their word. -/
theorem taken_encode (i : Instr) : Taken (encode i) := by
  cases i with
  | movR1 n => exact taken_of_row 0 rfl (masked_value2 (encode_value2 rfl rfl) rfl)
  | movR2 n => exact taken_of_row 1 rfl (masked_value2 (encode_value2 rfl rfl) rfl)
  | movR3 n => exact taken_of_row 2 rfl (masked_value2 (encode_value2 rfl rfl) rfl)
  | loadR1 n => exact taken_of_row 9 rfl (masked_value2 (encode_value2 rfl rfl) rfl)
  | loadR2 n => exact taken_of_row 10 rfl (masked_value2 (encode_value2 rfl rfl) rfl)
  | loadR3 n => exact taken_of_row 11 rfl (masked_value2 (encode_value2 rfl rfl) rfl)
  | storeR1 n => exact taken_of_row 18 rfl (masked_value2 (encode_value2 rfl rfl) rfl)
  | storeR2 n => exact taken_of_row 19 rfl (masked_value2 (encode_value2 rfl rfl) rfl)
  | storeR3 n => exact taken_of_row 20 rfl (masked_value2 (encode_value2 rfl rfl) rfl)
  | cmpR1 n => exact taken_of_row 57 rfl (masked_value2 (encode_value2 rfl rfl) rfl)
  | cmpR2 n => exact taken_of_row 58 rfl (masked_value2 (encode_value2 rfl rfl) rfl)
  | cmpR3 n => exact taken_of_row 59 rfl (masked_value2 (encode_value2 rfl rfl) rfl)
  | jmp n => exact taken_of_row 63 rfl (masked_value1 (encode_value1 rfl rfl) rfl)
  | jz n => exact taken_of_row 64 rfl (masked_value1 (encode_value1 rfl rfl) rfl)
  | jnz n => exact taken_of_row 65 rfl (masked_value1 (encode_value1 rfl rfl) rfl)
  | _ => rfl

/-- Settles O3: a row that takes the word gives what the word decodes to, and a word that decodes is taken by a row. -/
theorem tableDecoderAgrees : Obligations.TableDecoderAgrees := by
  intro w
  unfold decodeByTable
  cases hf : opcodeTable.find? (fun row => w &&& row.mask == row.pattern) with
  | some row =>
    have htake : w &&& row.mask = row.pattern := by simpa using List.find?_some hf
    have hw := rows_sound row (List.mem_of_find?_eq_some hf) w htake
    have hd := decode_encode (row.make w)
    rw [hw] at hd
    rw [hd]
    rfl
  | none =>
    cases hd : decode w with
    | error e => rfl
    | ok i =>
      have htaken := taken_encode i
      rw [encodeDecodeRoundTrip w i hd] at htaken
      obtain ⟨row, hrow, hmatch⟩ := List.any_eq_true.1 htaken
      exact absurd hmatch (List.find?_eq_none.1 hf row hrow)

end Sys2Proof.Decoding
end

section
/-! PROOF. Settles the statement on the 32-bit form of a micro-word (O9). A word is its twenty fields, each field and its code determine
each other, and a reserved code is the code of nothing. -/

namespace Sys2Proof.MicroCodes

open Sys2Proof.Machine

/-! ## Each line and its code (R181, R182) -/

theorem strobeOf_strobeCode (b : Bool) : strobeOf (strobeCode b) = b := by cases b <;> rfl
theorem strobeCode_strobeOf (c : BitVec 1) : strobeCode (strobeOf c) = c := by revert c; decide

theorem mux2Of_mux2Code (v : Option Mux2Sel) : mux2Of (mux2Code v) = some v := by rcases v with _ | _ | _ <;> rfl
theorem mux3Of_mux3Code (v : Option Mux3Sel) : mux3Of (mux3Code v) = some v := by rcases v with _ | _ | _ <;> rfl
theorem mux1Of_mux1Code (v : Option Mux1Sel) : mux1Of (mux1Code v) = some v := by rcases v with _ | _ | _ <;> rfl
theorem ipOf_ipCode (v : Option IpSel) : ipOf (ipCode v) = some v := by rcases v with _ | _ | _ <;> rfl
theorem mpcOf_mpcCode (v : Option MpcSel) : mpcOf (mpcCode v) = some v := by rcases v with _ | _ | _ <;> rfl
theorem op1Of_op1Code (v : Option Op1Sel) : op1Of (op1Code v) = some v := by rcases v with _ | _ | _ <;> rfl
theorem op2Of_op2Code (v : Option Op2Sel) : op2Of (op2Code v) = some v := by rcases v with _ | _ | _ <;> rfl
theorem aluOf_aluCode (v : Option AluOp) : aluOf (aluCode v) = some v := by rcases v with _ | _ | _ <;> rfl
theorem latchOf_latchCode (v : Option LatchSel) : latchOf (latchCode v) = some v := by rcases v with _ | _ | _ <;> rfl

theorem two_bits (c : BitVec 2) : c = 0 ∨ c = 1 ∨ c = 2 ∨ c = 3 := by revert c; decide
theorem three_bits (c : BitVec 3) : c = 0 ∨ c = 1 ∨ c = 2 ∨ c = 3 ∨ c = 4 ∨ c = 5 ∨ c = 6 ∨ c = 7 := by revert c; decide

theorem mux2Code_of {c : BitVec 2} {v : Option Mux2Sel} (h : mux2Of c = some v) : mux2Code v = c := by
  obtain rfl | rfl | rfl | rfl := two_bits c <;> cases h <;> rfl
theorem mux3Code_of {c : BitVec 2} {v : Option Mux3Sel} (h : mux3Of c = some v) : mux3Code v = c := by
  obtain rfl | rfl | rfl | rfl := two_bits c <;> cases h <;> rfl
theorem mux1Code_of {c : BitVec 3} {v : Option Mux1Sel} (h : mux1Of c = some v) : mux1Code v = c := by
  obtain rfl | rfl | rfl | rfl | rfl | rfl | rfl | rfl := three_bits c <;> cases h <;> rfl
theorem ipCode_of {c : BitVec 2} {v : Option IpSel} (h : ipOf c = some v) : ipCode v = c := by
  obtain rfl | rfl | rfl | rfl := two_bits c <;> cases h <;> rfl
theorem mpcCode_of {c : BitVec 2} {v : Option MpcSel} (h : mpcOf c = some v) : mpcCode v = c := by
  obtain rfl | rfl | rfl | rfl := two_bits c <;> cases h <;> rfl
theorem op1Code_of {c : BitVec 2} {v : Option Op1Sel} (h : op1Of c = some v) : op1Code v = c := by
  obtain rfl | rfl | rfl | rfl := two_bits c <;> cases h <;> rfl
theorem op2Code_of {c : BitVec 3} {v : Option Op2Sel} (h : op2Of c = some v) : op2Code v = c := by
  obtain rfl | rfl | rfl | rfl | rfl | rfl | rfl | rfl := three_bits c <;> cases h <;> rfl
theorem aluCode_of {c : BitVec 3} {v : Option AluOp} (h : aluOf c = some v) : aluCode v = c := by
  obtain rfl | rfl | rfl | rfl | rfl | rfl | rfl | rfl := three_bits c <;> cases h <;> rfl
theorem latchCode_of {c : BitVec 2} {v : Option LatchSel} (h : latchOf c = some v) : latchCode v = c := by
  obtain rfl | rfl | rfl | rfl := two_bits c <;> cases h <;> rfl

/-! ## Taking the fields of a packed word, and packing the fields of a word (R181) -/

/-- Each field of the word of `m` is the code of its line. -/
structure HoldsCodes (b : MicroBits) (m : MicroWord) : Prop where
  reserved : b.extractLsb' 31 1 = 0#1
  fetch : b.extractLsb' 30 1 = strobeCode m.fetch
  decode : b.extractLsb' 29 1 = strobeCode m.decode
  latchOr : b.extractLsb' 28 1 = strobeCode m.latchOr
  selMux2 : b.extractLsb' 26 2 = mux2Code m.selMux2
  selMux3 : b.extractLsb' 24 2 = mux3Code m.selMux3
  selMux1 : b.extractLsb' 21 3 = mux1Code m.selMux1
  selIp : b.extractLsb' 19 2 = ipCode m.selIp
  selMpc : b.extractLsb' 17 2 = mpcCode m.selMpc
  latchAr : b.extractLsb' 16 1 = strobeCode m.latchAr
  memRead : b.extractLsb' 15 1 = strobeCode m.memRead
  memWrite : b.extractLsb' 14 1 = strobeCode m.memWrite
  latchDr : b.extractLsb' 13 1 = strobeCode m.latchDr
  selOp1 : b.extractLsb' 11 2 = op1Code m.selOp1
  selOp2 : b.extractLsb' 8 3 = op2Code m.selOp2
  aluOp : b.extractLsb' 5 3 = aluCode m.aluOp
  latchReg : b.extractLsb' 3 2 = latchCode m.latchReg
  output : b.extractLsb' 2 1 = strobeCode m.output
  inputAdvance : b.extractLsb' 1 1 = strobeCode m.inputAdvance
  latchIp : b.extractLsb' 0 1 = strobeCode m.latchIp

theorem encodeMicro_holdsCodes (m : MicroWord) : HoldsCodes (encodeMicro m) m := by
  constructor <;> unfold encodeMicro <;>
    (repeat rw [BitVec.extractLsb'_append_eq_of_le (by decide)])
  case reserved => exact BitVec.extractLsb'_eq_self
  all_goals exact BitVec.extractLsb'_append_eq_right

/-- A word is nothing but its fields. -/
theorem encodeMicro_of_holdsCodes {b : MicroBits} {m : MicroWord} (h : HoldsCodes b m) : encodeMicro m = b := by
  unfold encodeMicro
  rw [← h.reserved, ← h.fetch, ← h.decode, ← h.latchOr, ← h.selMux2, ← h.selMux3, ← h.selMux1, ← h.selIp, ← h.selMpc, ← h.latchAr, ← h.memRead, ← h.memWrite, ← h.latchDr, ← h.selOp1, ← h.selOp2, ← h.aluOp, ← h.latchReg, ← h.output, ← h.inputAdvance, ← h.latchIp]
  rw [
    BitVec.extractLsb'_append_extractLsb'_eq_extractLsb' (rfl : 31 = 30 + 1),
    BitVec.extractLsb'_append_extractLsb'_eq_extractLsb' (rfl : 30 = 29 + 1),
    BitVec.extractLsb'_append_extractLsb'_eq_extractLsb' (rfl : 29 = 28 + 1),
    BitVec.extractLsb'_append_extractLsb'_eq_extractLsb' (rfl : 28 = 26 + 2),
    BitVec.extractLsb'_append_extractLsb'_eq_extractLsb' (rfl : 26 = 24 + 2),
    BitVec.extractLsb'_append_extractLsb'_eq_extractLsb' (rfl : 24 = 21 + 3),
    BitVec.extractLsb'_append_extractLsb'_eq_extractLsb' (rfl : 21 = 19 + 2),
    BitVec.extractLsb'_append_extractLsb'_eq_extractLsb' (rfl : 19 = 17 + 2),
    BitVec.extractLsb'_append_extractLsb'_eq_extractLsb' (rfl : 17 = 16 + 1),
    BitVec.extractLsb'_append_extractLsb'_eq_extractLsb' (rfl : 16 = 15 + 1),
    BitVec.extractLsb'_append_extractLsb'_eq_extractLsb' (rfl : 15 = 14 + 1),
    BitVec.extractLsb'_append_extractLsb'_eq_extractLsb' (rfl : 14 = 13 + 1),
    BitVec.extractLsb'_append_extractLsb'_eq_extractLsb' (rfl : 13 = 11 + 2),
    BitVec.extractLsb'_append_extractLsb'_eq_extractLsb' (rfl : 11 = 8 + 3),
    BitVec.extractLsb'_append_extractLsb'_eq_extractLsb' (rfl : 8 = 5 + 3),
    BitVec.extractLsb'_append_extractLsb'_eq_extractLsb' (rfl : 5 = 3 + 2),
    BitVec.extractLsb'_append_extractLsb'_eq_extractLsb' (rfl : 3 = 2 + 1),
    BitVec.extractLsb'_append_extractLsb'_eq_extractLsb' (rfl : 2 = 1 + 1),
    BitVec.extractLsb'_append_extractLsb'_eq_extractLsb' (rfl : 1 = 0 + 1)]
  exact BitVec.extractLsb'_eq_self

theorem decodeMicro_of_holdsCodes {b : MicroBits} {m : MicroWord} (h : HoldsCodes b m) : decodeMicro b = some m := by
  unfold decodeMicro
  rw [h.reserved, if_neg (by decide)]
  simp only [h.fetch, h.decode, h.latchOr, h.selMux2, h.selMux3, h.selMux1, h.selIp, h.selMpc, h.latchAr, h.memRead, h.memWrite, h.latchDr, h.selOp1, h.selOp2, h.aluOp, h.latchReg, h.output, h.inputAdvance, h.latchIp, strobeOf_strobeCode,
    mux2Of_mux2Code, mux3Of_mux3Code, mux1Of_mux1Code, ipOf_ipCode, mpcOf_mpcCode, op1Of_op1Code, op2Of_op2Code, aluOf_aluCode, latchOf_latchCode]

/-- A word that decodes holds the codes of what it decodes to. -/
theorem holdsCodes_of_decodeMicro {b : MicroBits} {m : MicroWord} (h : decodeMicro b = some m) : HoldsCodes b m := by
  unfold decodeMicro at h
  split at h
  · cases h
  · rename_i hres
    split at h
    · rename_i hmux2 hmux3 hmux1 hip hmpc hop1 hop2 halu hlatch
      cases h
      exact {
        reserved := (BitVec.eq_zero_or_eq_one _).resolve_right hres
        fetch := (strobeCode_strobeOf _).symm
        decode := (strobeCode_strobeOf _).symm
        latchOr := (strobeCode_strobeOf _).symm
        selMux2 := (mux2Code_of hmux2).symm
        selMux3 := (mux3Code_of hmux3).symm
        selMux1 := (mux1Code_of hmux1).symm
        selIp := (ipCode_of hip).symm
        selMpc := (mpcCode_of hmpc).symm
        latchAr := (strobeCode_strobeOf _).symm
        memRead := (strobeCode_strobeOf _).symm
        memWrite := (strobeCode_strobeOf _).symm
        latchDr := (strobeCode_strobeOf _).symm
        selOp1 := (op1Code_of hop1).symm
        selOp2 := (op2Code_of hop2).symm
        aluOp := (aluCode_of halu).symm
        latchReg := (latchCode_of hlatch).symm
        output := (strobeCode_strobeOf _).symm
        inputAdvance := (strobeCode_strobeOf _).symm
        latchIp := (strobeCode_strobeOf _).symm }
    · cases h

/-- Settles O9: in both directions the word and the micro-word are tied by the codes of the fields. -/
theorem microWordRoundTrip : Obligations.MicroWordRoundTrip :=
  ⟨fun m => decodeMicro_of_holdsCodes (encodeMicro_holdsCodes m),
    fun _ _ h => encodeMicro_of_holdsCodes (holdsCodes_of_decodeMicro h)⟩

end Sys2Proof.MicroCodes
end

section
/-! PROOF. Settles the statements on one tick: its bookkeeping, which line writes which piece of state, and the trace record it emits
(O25, O26, O60). The one idea: a line writes its own pieces of state and perhaps the status, so whatever no active line writes is kept. -/

namespace Sys2Proof.Frames

open Sys2Proof.Machine Sys2Proof.Lines

/-! ## What each line writes (40_alu_lines_tick.md section 3) -/

/-- `s` with the pieces of state that line `l` may write, and the status where the line may raise, taken from `u`. -/
def written (s u : State) : Line → State
  | .fetch => { s with ir := u.ir, status := u.status }
  | .decode => { s with decOperand := u.decOperand, decEntry := u.decEntry, status := u.status }
  | .latchOr => { s with orReg := u.orReg }
  | .selMux2 => { s with mux2Sel := u.mux2Sel }
  | .selMux3 => { s with mux3Sel := u.mux3Sel }
  | .selMux1 => { s with mux1Sel := u.mux1Sel }
  | .selIp => { s with ipSel := u.ipSel }
  | .selMpc => { s with mpcSel := u.mpcSel }
  | .latchAr => { s with ar := u.ar }
  | .memRead => { s with mo := u.mo, status := u.status }
  | .memWrite => { s with mem := u.mem, status := u.status }
  | .latchDr => { s with dr := u.dr }
  | .selOp1 => { s with op1 := u.op1 }
  | .selOp2 => { s with op2 := u.op2 }
  | .aluOp => { s with res := u.res, z := u.z, status := u.status }
  | .latchReg => { s with r1 := u.r1, r2 := u.r2, r3 := u.r3, status := u.status }
  | .output => { s with out := u.out, status := u.status }
  | .inputAdvance => { s with inQ := u.inQ, status := u.status }
  | .latchIp => { s with pc := u.pc }

theorem strobe_elim {P : State → Prop} {b : Bool} {f : State → State} {s : State} (hs : P s) (hf : P (f s)) :
    P (strobe b f s) := by
  cases b with
  | true => exact hf
  | false => exact hs

theorem carried_elim {α : Type} {P : State → Prop} {v : Option α} {f : α → State → State} {s : State} (hs : P s)
    (hf : ∀ a, P (f a s)) : P (carried v f s) := by
  cases v with
  | some a => exact hf a
  | none => exact hs

theorem orRaise_elim {α : Type} {P : State → Prop} {s : State} {r : Except Condition α} {k : α → State}
    (hc : ∀ c, r = .error c → P (s.raise c)) (hk : ∀ v, r = .ok v → P (k v)) : P (s.orRaise r k) := by
  cases r with
  | ok v => exact hk v rfl
  | error c => exact hc c rfl

/-- `t` differs from `s` only in what line `l` may write. -/
abbrev WritesOnly (l : Line) (s t : State) : Prop := t = written s t l

/-- Each line writes its own pieces of state and nothing else (R132 to R152). -/
theorem fireLine_writesOnly (w : MicroWord) (l : Line) (s : State) : WritesOnly l s (fireLine w l s) := by
  cases l with
  | fetch =>
    refine strobe_elim (P := WritesOnly .fetch s) rfl ?_
    unfold fireFetch
    split <;> rfl
  | decode =>
    refine strobe_elim (P := WritesOnly .decode s) rfl ?_
    unfold fireDecode
    split
    · exact orRaise_elim (P := WritesOnly .decode s) (fun _ _ => rfl) fun _ _ => rfl
    · rfl
  | memRead =>
    refine strobe_elim (P := WritesOnly .memRead s) rfl ?_
    unfold fireMemRead
    split <;> rfl
  | memWrite =>
    refine strobe_elim (P := WritesOnly .memWrite s) rfl ?_
    unfold fireMemWrite
    split <;> rfl
  | aluOp =>
    refine carried_elim (P := WritesOnly .aluOp s) rfl fun op => ?_
    refine orRaise_elim (P := WritesOnly .aluOp s) (fun _ _ => rfl) fun t ht => ?_
    obtain ⟨r, _, rfl⟩ := operate_eq_ok ht
    rfl
  | latchReg =>
    refine carried_elim (P := WritesOnly .latchReg s) rfl fun r => ?_
    refine orRaise_elim (P := WritesOnly .latchReg s) (fun _ _ => rfl) fun v _ => ?_
    cases r <;> rfl
  | output =>
    exact strobe_elim (P := WritesOnly .output s) rfl
      (orRaise_elim (P := WritesOnly .output s) (fun _ _ => rfl) fun _ _ => rfl)
  | inputAdvance =>
    exact strobe_elim (P := WritesOnly .inputAdvance s) rfl
      (orRaise_elim (P := WritesOnly .inputAdvance s) (fun _ _ => rfl) fun _ _ => rfl)
  | latchOr | latchAr | latchDr | latchIp => exact strobe_elim (P := WritesOnly _ s) rfl rfl
  | selMux2 | selMux3 | selMux1 | selIp | selMpc | selOp1 | selOp2 =>
    rw [fireLine]
    exact carried_elim (P := WritesOnly _ s) (by rfl) (by exact fun _ => rfl)

/-- A line keeps what it does not write. -/
theorem fireLine_keeps {α : Type} {f : State → α} {l : Line} (hf : ∀ u v, f (written u v l) = f u) (w : MicroWord)
    (s : State) : f (fireLine w l s) = f s :=
  (congrArg f (fireLine_writesOnly w l s)).trans (hf s _)

/-! ## What a list of lines keeps -/

/-- What each line of the list carries from one state to the next, the whole list carries. -/
theorem fireLines_induct {P : State → Prop} {w : MicroWord} {ls : List Line}
    (h : ∀ l ∈ ls, w.active l = true → ∀ u, u.status = .running → P u → P (fireLine w l u)) :
    ∀ {s : State}, P s → P (fireLines w ls s) := by
  induction ls with
  | nil => exact fun hs => hs
  | cons l ls ih =>
    intro s hs
    rw [fireLines]
    split
    · next hrun =>
      refine ih (fun l' hl' => h l' (List.mem_cons_of_mem l hl')) ?_
      cases ha : w.active l with
      | true => exact h l List.mem_cons_self ha s hrun hs
      | false => rw [fireLine_inactive ha]; exact hs
    · exact hs

/-- What no active line of the list writes is kept. -/
theorem fireLines_keeps {α : Type} {f : State → α} {w : MicroWord} {ls : List Line}
    (h : ∀ l ∈ ls, w.active l = true → ∀ u, f (fireLine w l u) = f u) (s : State) : f (fireLines w ls s) = f s :=
  fireLines_induct (P := fun t => f t = f s) (fun l hl ha u _ hu => (h l hl ha u).trans hu) rfl

/-! ## What a tick answers -/

/-- A tick that answers from a Running state answers the ticked state. -/
theorem ticked_of_tick {s t : State} (hs : s.status = .running) (h : tick s = .next t) :
    s.decodesNothing = false ∧ t = s.ticked := by
  unfold tick at h
  rw [if_pos hs] at h
  split at h
  · cases h
  · next hd => cases h; exact ⟨Bool.eq_false_iff.2 hd, rfl⟩

/-- Steps 4 and 5 of the tick go to a micro-address, or raise ControlStoreBoundsError (R162). -/
theorem latchNext_cases (s : State) :
    (∃ a, latchNext s = s.goTo a) ∨ ∃ n, latchNext s = s.raise (.fatal (.controlStoreBoundsError n)) := by
  unfold latchNext
  split
  · split
    · exact .inl ⟨_, rfl⟩
    · exact .inr ⟨_, rfl⟩
  · exact .inl ⟨_, rfl⟩
  · exact .inl ⟨_, rfl⟩

/-- A tick goes to a micro-address from what its lines have made, or raises ControlStoreBoundsError there, or ends at a line that
raised. -/
theorem ticked_cases (s : State) :
    ((fireWord s).status = .running ∧ ∃ a, s.ticked = (fireWord s).goTo a) ∨
    (∃ n, s.ticked = (fireWord s).raise (.fatal (.controlStoreBoundsError n))) ∨
    ((fireWord s).status ≠ .running ∧ s.ticked = fireWord s) := by
  by_cases hrun : (fireWord s).status = .running
  · rw [ticked_of_running rfl hrun]
    obtain h | h := latchNext_cases (fireWord s)
    · exact .inl ⟨hrun, h⟩
    · exact .inr (.inl h)
  · exact .inr (.inr ⟨hrun, ticked_of_raised rfl hrun⟩)

/-- A tick carries over what its lines carry over and what neither the next micro-address nor a raised status touches. -/
theorem tick_induct {P : State → Prop} {s t : State} (h : tick s = .next t) (hs : P s)
    (hline : ∀ l, s.mw.active l = true → ∀ u, P u → P (fireLine s.mw l u))
    (hgo : ∀ u a, P u → P (u.goTo a)) (hraise : ∀ u c, P u → P (u.raise c)) : P t := by
  by_cases hrun : s.status = .running
  · obtain ⟨_, rfl⟩ := ticked_of_tick hrun h
    have hfire : P (fireWord s) := fireLines_induct (fun l _ ha u _ => hline l ha u) hs
    obtain ⟨_, a, ha⟩ | ⟨n, hn⟩ | ⟨_, hstop⟩ := ticked_cases s
    · rw [ha]; exact hgo _ _ hfire
    · rw [hn]; exact hraise _ _ hfire
    · rw [hstop]; exact hfire
  · rw [tick_of_stopped hrun] at h
    cases h
    exact hs

/-! ## Each piece of state and the line that writes it (O26) -/

/-- `f` reads a piece of state that only line `l₀` writes, and that the next micro-address and the status are no part of. -/
structure WrittenOnlyBy {α : Type} (f : State → α) (l₀ : Line) : Prop where
  line : ∀ l, l ≠ l₀ → ∀ u v, f (written u v l) = f u
  goTo : ∀ u a, f (u.goTo a) = f u
  raise : ∀ u c, f (u.raise c) = f u

/-- A tick whose micro-word does not have the line keeps what only that line writes. -/
theorem WrittenOnlyBy.kept {α : Type} {f : State → α} {l₀ : Line} (hf : WrittenOnlyBy f l₀) {s t : State}
    (h : tick s = .next t) (hl : s.mw.active l₀ = false) : f t = f s := by
  refine tick_induct (P := fun u => f u = f s) h rfl (fun l ha u hu => ?_) (fun u a hu => (hf.goTo u a).trans hu)
    (fun u c hu => (hf.raise u c).trans hu)
  have hne : l ≠ l₀ := by
    rintro rfl
    rw [ha] at hl
    cases hl
  exact (fireLine_keeps (hf.line l hne) s.mw u).trans hu

theorem mem_writtenOnlyBy : WrittenOnlyBy State.mem .memWrite :=
  ⟨fun l hl _ _ => by cases l <;> trivial, fun _ _ => rfl, fun _ _ => rfl⟩
theorem mo_writtenOnlyBy : WrittenOnlyBy State.mo .memRead :=
  ⟨fun l hl _ _ => by cases l <;> trivial, fun _ _ => rfl, fun _ _ => rfl⟩
theorem dr_writtenOnlyBy : WrittenOnlyBy State.dr .latchDr :=
  ⟨fun l hl _ _ => by cases l <;> trivial, fun _ _ => rfl, fun _ _ => rfl⟩
theorem ar_writtenOnlyBy : WrittenOnlyBy State.ar .latchAr :=
  ⟨fun l hl _ _ => by cases l <;> trivial, fun _ _ => rfl, fun _ _ => rfl⟩
theorem orReg_writtenOnlyBy : WrittenOnlyBy State.orReg .latchOr :=
  ⟨fun l hl _ _ => by cases l <;> trivial, fun _ _ => rfl, fun _ _ => rfl⟩
theorem pc_writtenOnlyBy : WrittenOnlyBy State.pc .latchIp :=
  ⟨fun l hl _ _ => by cases l <;> trivial, fun _ _ => rfl, fun _ _ => rfl⟩
theorem res_writtenOnlyBy : WrittenOnlyBy State.res .aluOp :=
  ⟨fun l hl _ _ => by cases l <;> trivial, fun _ _ => rfl, fun _ _ => rfl⟩
theorem z_writtenOnlyBy : WrittenOnlyBy State.z .aluOp :=
  ⟨fun l hl _ _ => by cases l <;> trivial, fun _ _ => rfl, fun _ _ => rfl⟩
theorem op1_writtenOnlyBy : WrittenOnlyBy State.op1 .selOp1 :=
  ⟨fun l hl _ _ => by cases l <;> trivial, fun _ _ => rfl, fun _ _ => rfl⟩
theorem op2_writtenOnlyBy : WrittenOnlyBy State.op2 .selOp2 :=
  ⟨fun l hl _ _ => by cases l <;> trivial, fun _ _ => rfl, fun _ _ => rfl⟩
theorem out_writtenOnlyBy : WrittenOnlyBy State.out .output :=
  ⟨fun l hl _ _ => by cases l <;> trivial, fun _ _ => rfl, fun _ _ => rfl⟩
theorem inQ_writtenOnlyBy : WrittenOnlyBy State.inQ .inputAdvance :=
  ⟨fun l hl _ _ => by cases l <;> trivial, fun _ _ => rfl, fun _ _ => rfl⟩
theorem ir_writtenOnlyBy : WrittenOnlyBy State.ir .fetch :=
  ⟨fun l hl _ _ => by cases l <;> trivial, fun _ _ => rfl, fun _ _ => rfl⟩
theorem decOperand_writtenOnlyBy : WrittenOnlyBy State.decOperand .decode :=
  ⟨fun l hl _ _ => by cases l <;> trivial, fun _ _ => rfl, fun _ _ => rfl⟩
theorem decEntry_writtenOnlyBy : WrittenOnlyBy State.decEntry .decode :=
  ⟨fun l hl _ _ => by cases l <;> trivial, fun _ _ => rfl, fun _ _ => rfl⟩
theorem mux1Sel_writtenOnlyBy : WrittenOnlyBy State.mux1Sel .selMux1 :=
  ⟨fun l hl _ _ => by cases l <;> trivial, fun _ _ => rfl, fun _ _ => rfl⟩
theorem mux2Sel_writtenOnlyBy : WrittenOnlyBy State.mux2Sel .selMux2 :=
  ⟨fun l hl _ _ => by cases l <;> trivial, fun _ _ => rfl, fun _ _ => rfl⟩
theorem mux3Sel_writtenOnlyBy : WrittenOnlyBy State.mux3Sel .selMux3 :=
  ⟨fun l hl _ _ => by cases l <;> trivial, fun _ _ => rfl, fun _ _ => rfl⟩
theorem ipSel_writtenOnlyBy : WrittenOnlyBy State.ipSel .selIp :=
  ⟨fun l hl _ _ => by cases l <;> trivial, fun _ _ => rfl, fun _ _ => rfl⟩
theorem mpcSel_writtenOnlyBy : WrittenOnlyBy State.mpcSel .selMpc :=
  ⟨fun l hl _ _ => by cases l <;> trivial, fun _ _ => rfl, fun _ _ => rfl⟩

theorem imem_kept {s t : State} (h : tick s = .next t) : t.imem = s.imem :=
  tick_induct (P := fun u => u.imem = s.imem) h rfl
    (fun l _ u hu => (fireLine_keeps (f := State.imem) (by cases l <;> exact fun _ _ => rfl) s.mw u).trans hu)
    (fun _ _ hu => hu) (fun _ _ hu => hu)

/-- `LATCH_REG` writes the register it carries and no other (R148). -/
theorem reg_fireLatchReg {l : LatchSel} {r : Reg} (hr : l.reg ≠ r) (s : State) : (fireLatchReg l s).reg r = s.reg r :=
  orRaise_elim (P := fun t => t.reg r = s.reg r) (fun c _ => reg_raise s c r)
    fun v _ => (regsSet_setReg s l.reg v).2 r hr.symm

/-- A register is changed only where `LATCH_REG` carries it. -/
theorem reg_kept {s t : State} (h : tick s = .next t) {r : Reg} (hr : ∀ l, s.mw.latchReg = some l → l.reg ≠ r) :
    t.reg r = s.reg r := by
  refine tick_induct (P := fun u => u.reg r = s.reg r) h rfl (fun l _ u hu => ?_)
    (fun u a hu => (reg_goTo u a r).trans hu) (fun u c hu => (reg_raise u c r).trans hu)
  by_cases hl : l = .latchReg
  · subst hl
    cases hw : s.mw.latchReg with
    | none => rw [fireLine, hw]; exact hu
    | some l => rw [fireLine, hw]; exact (reg_fireLatchReg (hr l hw) u).trans hu
  · exact (sameRegs_fireLine s.mw u hl r).trans hu

/-- A line whose value is absent is inactive (R180). -/
theorem isSome_eq_false {α : Type} {v : Option α} (h : v = none) : v.isSome = false := by rw [h]; rfl

/-- Settles O26: each piece of state is written by one line, and a tick without that line keeps it. -/
theorem eachLineWritesItsOwnState : Obligations.EachLineWritesItsOwnState := fun _ _ h =>
  ⟨fun _ hr => reg_kept h hr, mem_writtenOnlyBy.kept h, mo_writtenOnlyBy.kept h, dr_writtenOnlyBy.kept h,
    ar_writtenOnlyBy.kept h, orReg_writtenOnlyBy.kept h, pc_writtenOnlyBy.kept h,
    fun hw => ⟨res_writtenOnlyBy.kept h (isSome_eq_false hw), z_writtenOnlyBy.kept h (isSome_eq_false hw)⟩,
    fun hw => op1_writtenOnlyBy.kept h (isSome_eq_false hw), fun hw => op2_writtenOnlyBy.kept h (isSome_eq_false hw),
    out_writtenOnlyBy.kept h, inQ_writtenOnlyBy.kept h, ir_writtenOnlyBy.kept h,
    fun hw => ⟨decOperand_writtenOnlyBy.kept h hw, decEntry_writtenOnlyBy.kept h hw⟩,
    fun hw => mux1Sel_writtenOnlyBy.kept h (isSome_eq_false hw), fun hw => mux2Sel_writtenOnlyBy.kept h (isSome_eq_false hw),
    fun hw => mux3Sel_writtenOnlyBy.kept h (isSome_eq_false hw), fun hw => ipSel_writtenOnlyBy.kept h (isSome_eq_false hw),
    fun hw => mpcSel_writtenOnlyBy.kept h (isSome_eq_false hw), imem_kept h⟩

/-! ## The bookkeeping of a tick (O25) -/

/-- No line writes the micro-address, the micro-word or the tick counter. -/
theorem fireWord_control (s : State) : (fireWord s).mpc = s.mpc ∧ (fireWord s).mw = s.mw ∧ (fireWord s).tick = s.tick := by
  refine ⟨?_, ?_, ?_⟩
  · exact fireLines_keeps (f := State.mpc) (fun l _ _ => fireLine_keeps (by cases l <;> exact fun _ _ => rfl) _) s
  · exact fireLines_keeps (f := State.mw) (fun l _ _ => fireLine_keeps (by cases l <;> exact fun _ _ => rfl) _) s
  · exact fireLines_keeps (f := State.tick) (fun l _ _ => fireLine_keeps (by cases l <;> exact fun _ _ => rfl) _) s

/-- Step 5 of the tick, where it completes, follows `mpc_sel` (R160, R162). -/
theorem latchNext_bookkeeping {s : State} (hrun : (latchNext s).status = .running) :
    ((latchNext s).mpcSel = .increment → (latchNext s).mpc.val = s.mpc.val + 1) ∧
    ((latchNext s).mpcSel = .next → (latchNext s).mpc = (latchNext s).decEntry) ∧
    ((latchNext s).mpcSel = .null → (latchNext s).mpc = 0) := by
  cases hsel : s.mpcSel with
  | increment =>
    unfold latchNext at hrun ⊢
    simp only [hsel] at hrun ⊢
    split at hrun
    · next hm => simp [dif_pos hm, hsel]
    · cases hrun
  | next => rw [latchNext_next hsel]; simp [hsel]
  | null => rw [latchNext_null hsel]; simp [hsel]

/-- Settles O25: the lines keep the control unit's own state, and step 5 of the tick sets it. -/
theorem tickBookkeeping : Obligations.TickBookkeeping := by
  intro s t hs h
  obtain ⟨_, rfl⟩ := ticked_of_tick hs h
  obtain ⟨hmpc, hmw, htick⟩ := fireWord_control s
  obtain ⟨hrun, a, ha⟩ | ⟨n, hn⟩ | ⟨hstop, heq⟩ := ticked_cases s
  · refine ⟨fun ht => ⟨?_, ?_, ?_⟩, fun ht => ?_⟩
    · rw [ha, goTo_tick, htick]
    · rw [ha, goTo_mw, goTo_mpc]
    · rw [ticked_of_running rfl hrun] at ht ⊢
      rw [← hmpc]
      exact latchNext_bookkeeping ht
    · rw [ha, goTo_status] at ht
      exact absurd hrun ht
  · rw [hn]
    exact ⟨fun ht => absurd ht (raise_stops _ _), fun _ => ⟨hmpc, hmw, htick⟩⟩
  · rw [heq]
    exact ⟨fun ht => absurd ht hstop, fun _ => ⟨hmpc, hmw, htick⟩⟩

/-! ## The trace record (O60) -/

/-- A tick that ends Running goes to a micro-address from what its lines have made. -/
theorem exists_goTo_of_running {s : State} (h : s.ticked.status = .running) :
    ∃ a, s.ticked = (fireWord s).goTo a := by
  obtain ⟨_, ha⟩ | ⟨n, hn⟩ | ⟨hstop, heq⟩ := ticked_cases s
  · exact ha
  · rw [hn] at h; exact absurd h (raise_stops _ _)
  · rw [heq] at h; exact absurd h hstop

theorem tickTrace_of_running {s : State} (hs : s.status = .running) (hd : s.decodesNothing = false)
    (ht : s.ticked.status = .running) : tickTrace s = some (fireWord s).traceRecord := by
  rw [tickTrace, State.tickCompletes, hs, hd, ht]
  rfl

theorem tickTrace_of_raised {s : State} (ht : s.ticked.status ≠ .running) : tickTrace s = none := by
  rw [tickTrace, State.tickCompletes, decide_eq_false ht, Bool.and_false]
  rfl

/-- Settles O60: the record is read off the state the lines have made, whose control unit is that of before the tick and whose data
is that of after it. -/
theorem traceRecordOfATick : Obligations.TraceRecordOfATick := by
  refine fun s => ⟨fun hs => ?_, fun t hs h => ?_⟩
  · rw [tickTrace, State.tickCompletes, decide_eq_false hs]
    rfl
  · obtain ⟨hd, rfl⟩ := ticked_of_tick hs h
    refine ⟨fun ht => ⟨_, tickTrace_of_running hs hd ht, ?_⟩, tickTrace_of_raised⟩
    obtain ⟨a, ha⟩ := exists_goTo_of_running ht
    obtain ⟨hmpc, _, htick⟩ := fireWord_control s
    rw [ha]
    refine ⟨htick, hmpc, rfl, rfl, rfl, rfl, rfl, rfl, rfl, rfl, fun hm => ?_, fun hm record hir => ?_⟩
    · rw [← hmpc] at hm
      exact if_pos hm
    · rw [← hmpc] at hm
      rw [goTo_ir] at hir
      simp only [State.traceRecord, State.traceAction, if_neg (Nat.not_le_of_lt hm), State.irOpcode, hir]

end Sys2Proof.Frames
end

section
/-! PROOF. What each shared meaning answers, one equation per outcome, in the order of the model's definitions. The walks through the
ticks and the statements on single instructions cite these and do not unfold a meaning again. -/

namespace Sys2Proof.Meanings

open Sys2Proof.Machine

/-! ## Loads and stores -/

theorem loadFinish_of_some {d : Reg} {s : State} {v : Word} (h : memRead s.mem s.ar = some v) :
    loadFinish d s = .next (({ ({ s with mo := v, dr := v }.nextWord) with mux1Sel := .dr }.setReg d v).retire .inc) := by
  simp only [loadFinish, h]

theorem loadFinish_of_none {d : Reg} {s : State} (h : memRead s.mem s.ar = none) :
    loadFinish d s = .next (s.raise (.fatal (.memoryBoundsError s.ar))) := by
  simp only [loadFinish, h]

/-- Selecting the end of the routine and a register on mux2 leaves the registers as they are. -/
theorem reg_selectEnd_mux2 (s : State) (m : Mux2Sel) (r : Reg) : ({ s.selectEnd with mux2Sel := m } : State).reg r = s.reg r := by
  cases r <;> rfl

theorem storeFinish_of_some {r : Reg} {s : State} {m : List (Nat × Word)} (h : memWrite s.mem s.ar (s.reg r) = some m) :
    storeFinish r s = .next ({ s with mux2Sel := mux2For r, mem := m }.retire .inc) := by
  rw [← reg_selectEnd_mux2 s (mux2For r)] at h
  unfold storeFinish
  dsimp only
  split
  · next m' hm' => cases h.symm.trans hm'; rfl
  · next hm' => cases h.symm.trans hm'

theorem storeFinish_of_none {r : Reg} {s : State} (h : memWrite s.mem s.ar (s.reg r) = none) :
    storeFinish r s = .next ({ s.selectEnd with mux2Sel := mux2For r }.raise (.fatal (.memoryBoundsError s.ar))) := by
  rw [← reg_selectEnd_mux2 s (mux2For r)] at h
  unfold storeFinish
  dsimp only
  split
  · next m' hm' => cases h.symm.trans hm'
  · rfl

/-! ## Arithmetic -/

theorem arith_of_some {op : AluOp} {d : Reg} {e : MicroAddr} {a b v : Word} {s : State} (h : alu op a b = some v) :
    arith op d e a b s = .next (({ ({ s.dispatch none e with
      mpcSel := .increment, op1 := a, op2 := b, res := v, z := zeroFlag v }.nextWord) with mux1Sel := .alu }.setReg d v).retire .inc) := by
  simp only [arith, State.operate, h]

theorem arith_of_none {op : AluOp} {d : Reg} {e : MicroAddr} {a b : Word} {s : State} (h : alu op a b = none) :
    arith op d e a b s = .next ({ s.dispatch none e with mpcSel := .increment, op1 := a, op2 := b }.raise
      (.fatal (.arithmeticError op a))) := by
  simp only [arith, State.operate, h]

/-- A subtraction has a result, so a comparison never raises (R229). -/
theorem compareFinish_eq (a b : Word) (s : State) :
    compareFinish a b s = .next ({ s.selectEnd with
      op1 := a, op2 := b, res := wrap16 (a.toInt - b.toInt), z := zeroFlag (wrap16 (a.toInt - b.toInt)) }.retire .inc) := by
  simp only [compareFinish, State.operate, alu_sub]

/-! ## Input and output -/

theorem outReg_of_ok {d : Reg} {e : MicroAddr} {s : State} {o : List Nat} (h : outAppend s.out (s.reg d) = .ok o) :
    outReg d e s = .next ({ s.dispatch none e with mux2Sel := mux2For d, out := o }.retire .inc) := by
  rw [← reg_dispatch s none e, ← reg_selectEnd_mux2 (s.dispatch none e) (mux2For d)] at h
  unfold outReg
  dsimp only
  split
  · next o' ho' => cases h.symm.trans ho'; rfl
  · next c ho' => cases h.symm.trans ho'

theorem outReg_of_error {d : Reg} {e : MicroAddr} {s : State} {c : Condition} (h : outAppend s.out (s.reg d) = .error c) :
    outReg d e s = .next ({ (s.dispatch none e).selectEnd with mux2Sel := mux2For d }.raise c) := by
  rw [← reg_dispatch s none e, ← reg_selectEnd_mux2 (s.dispatch none e) (mux2For d)] at h
  unfold outReg
  dsimp only
  split
  · next o' ho' => cases h.symm.trans ho'
  · next c ho' => cases h.symm.trans ho'; rfl

theorem inReg_of_error {d : Reg} {e : MicroAddr} {s : State} {c : Condition} (h : inHead s.inQ = .error c) :
    inReg d e s = .next ({ (s.dispatch none e).selectEnd with mux1Sel := .input }.raise c) := by
  simp only [inReg, selectEnd_inQ, dispatch_inQ, h]

/-- A peek that answers found a token, so the advance after it has one to take (R262, R263). -/
theorem inReg_of_ok {d : Reg} {e : MicroAddr} {s : State} {c : Nat} {q : List Nat} {v : Word} (hq : s.inQ = c :: q)
    (h : inHead s.inQ = .ok v) :
    inReg d e s = .next ({ ({ s.dispatch none e with mux1Sel := .input }).setReg d v with inQ := q }.retire .inc) := by
  have hp : inPop s.inQ = .ok q := by rw [hq]; rfl
  simp only [inReg, selectEnd_inQ, dispatch_inQ, h, hp]
  cases d <;> rfl

end Sys2Proof.Meanings
end

section
/-! PROOF. Settles the statements that tie the whole instruction to its ticks (O10, O11, O12, O13, O14, O15). The routine of every
instruction is walked through tick by tick, once for each shape of instruction; the walk says at the same time where the step ends and
how many ticks it takes. -/

namespace Sys2Proof.Refinement

open Sys2Proof.Machine Sys2Proof.Laws Sys2Proof.Encoding Sys2Proof.Decoding Sys2Proof.Frames Sys2Proof.Meanings

/-! ## Walks: the ticks from one state to the end of the instruction (R164) -/

/-- Firing ticks from `s` ends the instruction in `t`: after exactly `n` ticks at micro-address 0, or after at most `n` in a
terminal status. -/
inductive Walk : Nat → State → State → Prop
  | stops {n : Nat} {s t : State} (h : tick s = .next t) (ht : t.status ≠ .running) : Walk (n + 1) s t
  | returns {s t : State} (h : tick s = .next t) (ht : t.mpc = 0) : Walk 1 s t
  | goesOn {n : Nat} {s u t : State} (h : tick s = .next u) (hs : u.status = .running) (hm : u.mpc ≠ 0) (rest : Walk n u t) :
      Walk (n + 1) s t

theorem ticksToBoundary_of_walk {n : Nat} {s t : State} (h : Walk n s t) :
    ∀ {k}, n ≤ k → ticksToBoundary k s = .next t := by
  induction h with
  | stops h ht =>
    intro k hk
    obtain ⟨k, rfl⟩ := Nat.exists_eq_add_of_lt (Nat.lt_of_lt_of_le (Nat.succ_pos _) hk)
    simp [ticksToBoundary, h, ht]
  | returns h ht =>
    intro k hk
    obtain ⟨k, rfl⟩ := Nat.exists_eq_add_of_lt hk
    simp [ticksToBoundary, h, ht]
  | goesOn h hs hm _ ih =>
    intro k hk
    obtain ⟨k, rfl⟩ := Nat.exists_eq_succ_of_ne_zero (Nat.ne_zero_of_lt (Nat.lt_of_lt_of_le (Nat.succ_pos _) hk))
    simp [ticksToBoundary, h, hs, hm, ih (Nat.le_of_succ_le_succ hk)]

/-- A walk that does not stop takes its number of ticks, and each of them is counted (R43). -/
theorem ticks_of_walk {n : Nat} {s t : State} (h : Walk n s t) (ht : t.status = .running) (hs : s.status = .running) :
    ticks n s = .next t ∧ t.tick = s.tick + n := by
  induction h with
  | stops _ hstop => exact absurd ht hstop
  | returns h _ => exact ⟨by simp only [ticks, h], ((tickBookkeeping _ _ hs h).1 ht).1⟩
  | goesOn h hu _ _ ih =>
    obtain ⟨hticks, htick⟩ := ih ht hu
    refine ⟨by simp only [ticks, h, hticks], ?_⟩
    rw [htick, ((tickBookkeeping _ _ hs h).1 hu).1, Nat.add_assoc, Nat.add_comm 1]

/-! ## The decode tick (R158, R189) -/

/-- From `s` the decode tick dispatches to the routine at `e` with the number argument `n`. -/
structure Dispatches (s : State) (n : Option Word) (e : MicroAddr) : Prop where
  running : s.status = .running
  tick : tick s = .next (s.dispatch n e)
  entry : e ≠ 0

/-- The routine at `e`, walked from the state dispatch leaves, makes with the decode tick one walk. -/
theorem Dispatches.walk {s t : State} {n : Option Word} {e : MicroAddr} {k : Nat} (h : Dispatches s n e)
    (rest : Walk k (s.dispatch n e) t) : Walk (k + 1) s t :=
  .goesOn h.tick h.running h.entry rest

/-- The first tick of the routine, whose micro-word is no `DECODE`. -/
theorem Dispatches.routine_tick {s : State} {n : Option Word} {e : MicroAddr} {w : MicroWord} (h : Dispatches s n e)
    (hw : cs e = w) (hd : w.decode = false) : Machine.tick (s.dispatch n e) = .next (s.dispatch n e).ticked :=
  tick_of_running (s := s.dispatch n e) h.running (by rw [dispatch_mw, hw, hd])

theorem resolve_of_decode {item : Item} {i : Instr} {z : Bool} {e : MicroAddr} (h : decodeItem item = .ok i)
    (he : i.entry z = some e) : resolve item z = .ok e := by
  simp only [resolve, h, he]

theorem resolve_halt {item : Item} {z : Bool} (h : decodeItem item = .ok .halt) :
    resolve item z = .error .programHalted := by
  simp only [resolve, h, Instr.entry]

/-- The operand `DECODE` extracts is that of the decoded form (R89, R156). -/
theorem lastNumber_of_decode {item : Item} {i : Instr} (h : decodeItem item = .ok i) :
    item.lastNumber = i.toRecord.lastNumber := by
  cases item with
  | record r => rw [← recordNormal_eq_of_decodeRecord h, lastNumber_recordNormal]; rfl
  | malformed w => cases h

/-- `s` stands at micro-word 1 with an instruction in `IR` that decodes to `i`. -/
structure AtDecode (s : State) (i : Instr) : Prop where
  running : s.status = .running
  microWord : s.mw = cs 1
  instruction : ∃ item, s.ir = some item ∧ decodeItem item = .ok i

theorem AtDecode.dispatches {s : State} {i : Instr} (h : AtDecode s i) {n : Option Word} {e : MicroAddr}
    (he : i.entry s.z = some e) (hn : i.toRecord.lastNumber = n) : Dispatches s n e := by
  obtain ⟨item, hir, hd⟩ := h.instruction
  refine ⟨h.running, ?_, entry_ne_zero he⟩
  rw [tick_of_ir h.running hir, ticked_decode h.running h.microWord hir (resolve_of_decode hd he), lastNumber_of_decode hd, hn]

/-- The forms with a number (R83, R89). -/
theorem AtDecode.dispatches_number {s : State} {i : Instr} (h : AtDecode s i) {n : Word} {e : MicroAddr}
    (he : i.entry s.z = some e) (hn : i.toRecord.lastNumber = some (operandOf n.toInt)) : Dispatches s (some n) e := by
  rw [operandOf, wrap16_toInt] at hn
  exact h.dispatches he hn

/-! ## The values of the selector lines that select a register -/

def latchFor : Reg → LatchSel
  | .r1 => .r1
  | .r2 => .r2
  | .r3 => .r3

def op1For : Reg → Op1Sel
  | .r1 => .r1
  | .r2 => .r2
  | .r3 => .r3

def op2For : Reg → Op2Sel
  | .r1 => .r1
  | .r2 => .r2
  | .r3 => .r3

@[simp] theorem latchFor_reg (r : Reg) : (latchFor r).reg = r := by cases r <;> rfl
@[simp] theorem op1For_reg (r : Reg) : (op1For r).reg = r := by cases r <;> rfl
@[simp] theorem mux2For_reg (r : Reg) : (mux2For r).reg = r := by cases r <;> rfl
@[simp] theorem op2Source_op2For (s : State) (r : Reg) : s.op2Source (op2For r) = s.reg r := by cases r <;> rfl

/-! ## The routines, shape by shape (R191)

`Runs k s r`: from `s` the control unit walks, in `k` ticks, to the state that the meaning `r` answers. -/

def Runs (k : Nat) (s : State) (r : Result) : Prop := ∃ t, r = .next t ∧ Walk k s t

/-- The last micro-word of a register-writing routine. -/
abbrev latchEndWord (m : Mux1Sel) (d : Reg) : MicroWord :=
  { selMux1 := some m, selIp := some .inc, selMpc := some .null, latchReg := some (latchFor d), latchIp := true }

theorem walk_latchEnd {s : State} {m : Mux1Sel} {d : Reg} (hs : s.status = .running) (hm : m ≠ .input)
    (hw : s.mw = latchEndWord m d) : Walk 1 s (({ s with mux1Sel := m }.setReg d (s.latchSource m)).retire .inc) := by
  refine .returns ?_ rfl
  rw [tick_of_running hs (by rw [hw]), ticked_latchEnd hs hm hw, latchFor_reg]

/-- `MOV Rd,#n` (R200). -/
theorem runs_movImm {s : State} {d : Reg} {e : MicroAddr} {n : Word} (h : Dispatches s (some n) e)
    (hw : cs e = latchEndWord .or d) : Runs 2 s (movImm d e n s) :=
  ⟨_, rfl, h.walk (walk_latchEnd h.running (by decide) hw)⟩

/-- `MOV Rd,Rs` (R201). -/
theorem runs_movReg {s : State} {d r : Reg} {e : MicroAddr} (h : Dispatches s none e)
    (hw : cs e = { selMux2 := some (mux2For r), selMux1 := some .mux2, selIp := some .inc, selMpc := some .null,
                   latchReg := some (latchFor d), latchIp := true }) : Runs 2 s (movReg d r e s) := by
  refine ⟨_, rfl, h.walk (.returns ?_ rfl)⟩
  rw [h.routine_tick hw rfl, ticked_copyEnd (s := s.dispatch none e) h.running hw, latchFor_reg, mux2For_reg, reg_dispatch]

/-- The read of a LOAD, in the tick at `s`, and its last micro-word (R203, R204). -/
theorem runs_loadFinish {s u : State} {d : Reg} (ht : tick s = .next u.readTick) (hu : u.status = .running)
    (hm : u.mpc + 1 ≠ 0) (hw : cs (u.mpc + 1) = latchEndWord .dr d) : Runs 2 s (loadFinish d u) := by
  cases hr : memRead u.mem u.ar with
  | some v =>
    simp only [State.readTick, hr] at ht
    exact ⟨_, loadFinish_of_some hr, .goesOn ht hu hm (walk_latchEnd hu (by decide) hw)⟩
  | none =>
    simp only [State.readTick, hr] at ht
    exact ⟨_, loadFinish_of_none hr, .stops ht (raise_stops _ _)⟩

/-- `LOAD Rd,#n` (R203). -/
theorem runs_loadDirect {s : State} {d : Reg} {e : MicroAddr} {n : Word} (h : Dispatches s (some n) e)
    (hm : e.val + 1 < 127) (hm' : e + 1 ≠ 0)
    (hw : cs e = { selMux3 := some .operand, selMpc := some .increment, latchAr := true, memRead := true, latchDr := true })
    (hw' : cs (e + 1) = latchEndWord .dr d) : Runs 3 s (loadDirect d e n s) := by
  obtain ⟨t, ht, hwalk⟩ := runs_loadFinish (s := s.dispatch (some n) e) (d := d)
    (u := { s.dispatch (some n) e with mux3Sel := .operand, mpcSel := .increment, ar := n })
    (by rw [h.routine_tick hw rfl, ticked_addressRead (s := s.dispatch (some n) e) h.running hm hw]; rfl)
    h.running hm' hw'
  exact ⟨t, ht, h.walk hwalk⟩

/-- An address micro-word that presents a base register on mux2 (R204, R207). -/
theorem tick_indirectAddress {s : State} {b : Reg} (hs : s.status = .running) (hm : s.mpc.val + 1 < 127)
    (hw : s.mw = { selMux2 := some (mux2For b), selMux3 := some .mux2, selMpc := some .increment, latchAr := true }) :
    tick s = .next ({ s with mux2Sel := mux2For b, mux3Sel := .mux2, ar := s.reg b } : State).nextWord := by
  rw [tick_of_running hs (by rw [hw]), ticked_address hs hm hw]
  cases b <;> rfl

/-- An address micro-word that presents the operand bus, and selects a STORE's data register on mux2 (R206). -/
theorem tick_directAddress {s : State} {r : Reg} (hs : s.status = .running) (hm : s.mpc.val + 1 < 127)
    (hw : s.mw = { selMux2 := some (mux2For r), selMux3 := some .operand, selMpc := some .increment, latchAr := true }) :
    tick s = .next ({ s with mux2Sel := mux2For r, mux3Sel := .operand, ar := s.decOperand } : State).nextWord := by
  rw [tick_of_running hs (by rw [hw]), ticked_address hs hm hw]
  rfl

/-- `LOAD Rd,(Rs)` (R204). -/
theorem runs_loadIndirect {s : State} {d b : Reg} {e : MicroAddr} (h : Dispatches s none e)
    (hm : e.val + 1 < 127) (hm1 : e + 1 ≠ 0) (hm' : (e + 1).val + 1 < 127) (hm2 : e + 1 + 1 ≠ 0)
    (hw : cs e = { selMux2 := some (mux2For b), selMux3 := some .mux2, selMpc := some .increment, latchAr := true })
    (hw1 : cs (e + 1) = { selMpc := some .increment, memRead := true, latchDr := true })
    (hw2 : cs (e + 1 + 1) = latchEndWord .dr d) : Runs 4 s (loadIndirect d b e s) := by
  have haddress := tick_indirectAddress (s := s.dispatch none e) h.running hm hw
  rw [reg_dispatch] at haddress
  let u : State := ({ s.dispatch none e with mux2Sel := mux2For b, mux3Sel := .mux2, ar := s.reg b } : State).nextWord
  have hread : tick u = .next (State.readTick { u with mpcSel := .increment }) := by
    rw [tick_of_running (s := u) h.running (by rw [show u.mw = _ from hw1]), ticked_read (s := u) h.running hm' hw1]
  obtain ⟨t, ht, hwalk⟩ := runs_loadFinish (d := d) hread h.running hm2 hw2
  exact ⟨t, ht, h.walk (.goesOn haddress h.running hm1 hwalk)⟩

/-- The last micro-word of a STORE, with the data register on mux2 already or selected now (R206, R207). -/
theorem runs_storeFinish {s : State} {r : Reg} {m : Option Mux2Sel} (hs : s.status = .running)
    (hw : s.mw = { selMux2 := m, selIp := some .inc, selMpc := some .null, memWrite := true, latchIp := true })
    (hm : m.getD s.mux2Sel = mux2For r) : Runs 1 s (storeFinish r s) := by
  have ht : tick s = .next (State.writeTick { s with mux2Sel := mux2For r }) := by
    rw [tick_of_running hs (by rw [hw]), ticked_write hs hw, hm]
  have hdata : ({ s with mux2Sel := mux2For r } : State).mux2 = s.reg r := by cases r <;> rfl
  simp only [State.writeTick, hdata] at ht
  cases hwr : memWrite s.mem s.ar (s.reg r) with
  | some m' =>
    simp only [hwr] at ht
    exact ⟨_, storeFinish_of_some hwr, .returns ht rfl⟩
  | none =>
    simp only [hwr] at ht
    exact ⟨_, storeFinish_of_none hwr, .stops ht (raise_stops _ _)⟩

/-- `STORE Rs,#n` (R206). -/
theorem runs_storeDirect {s : State} {r : Reg} {e : MicroAddr} {n : Word} (h : Dispatches s (some n) e)
    (hm : e.val + 1 < 127) (hm' : e + 1 ≠ 0)
    (hw : cs e = { selMux2 := some (mux2For r), selMux3 := some .operand, selMpc := some .increment, latchAr := true })
    (hw' : cs (e + 1) = { selIp := some .inc, selMpc := some .null, memWrite := true, latchIp := true }) :
    Runs 3 s (storeDirect r e n s) := by
  have haddress := tick_directAddress (s := s.dispatch (some n) e) h.running hm hw
  obtain ⟨t, ht, hwalk⟩ := runs_storeFinish (r := r) (m := none)
    (s := ({ s.dispatch (some n) e with mux2Sel := mux2For r, mux3Sel := .operand, ar := n } : State).nextWord)
    h.running hw' rfl
  exact ⟨t, ht, h.walk (.goesOn haddress h.running hm' hwalk)⟩

/-- `STORE Rs,(Rd)` (R207). -/
theorem runs_storeIndirect {s : State} {r b : Reg} {e : MicroAddr} (h : Dispatches s none e)
    (hm : e.val + 1 < 127) (hm' : e + 1 ≠ 0)
    (hw : cs e = { selMux2 := some (mux2For b), selMux3 := some .mux2, selMpc := some .increment, latchAr := true })
    (hw' : cs (e + 1) = { selMux2 := some (mux2For r), selIp := some .inc, selMpc := some .null, memWrite := true, latchIp := true }) :
    Runs 3 s (storeIndirect r b e s) := by
  have haddress := tick_indirectAddress (s := s.dispatch none e) h.running hm hw
  rw [reg_dispatch] at haddress
  obtain ⟨t, ht, hwalk⟩ := runs_storeFinish (r := r) (m := some (mux2For r))
    (s := ({ s.dispatch none e with mux2Sel := mux2For b, mux3Sel := .mux2, ar := s.reg b } : State).nextWord)
    h.running hw' rfl
  exact ⟨t, ht, h.walk (.goesOn haddress h.running hm' hwalk)⟩

/-- The arithmetic routines (R220): the operation, then the write of its result. -/
theorem runs_arith {s : State} {op : AluOp} {d : Reg} {a : Op1Sel} {b : Option Op2Sel} {x y : Word} {e : MicroAddr}
    (h : Dispatches s none e) (hm : e.val + 1 < 127) (hm' : e + 1 ≠ 0)
    (hw : cs e = { selMpc := some .increment, selOp1 := some a, selOp2 := b, aluOp := some op })
    (hw' : cs (e + 1) = latchEndWord .alu d) (hx : s.reg a.reg = x)
    (hy : (b.map (s.dispatch none e).op2Source).getD s.op2 = y) : Runs 3 s (arith op d e x y s) := by
  have ht := h.routine_tick hw rfl
  rw [ticked_alu (s := s.dispatch none e) h.running hm hw, reg_dispatch, hx, dispatch_op2, hy] at ht
  cases ho : alu op x y with
  | some v =>
    simp only [State.operate, ho] at ht
    exact ⟨_, arith_of_some ho, h.walk (.goesOn ht h.running hm' (walk_latchEnd h.running (by decide) hw'))⟩
  | none =>
    simp only [State.operate, ho] at ht
    exact ⟨_, arith_of_none ho, h.walk (.stops ht (raise_stops _ _))⟩

/-- `ADD Rd` (R222). -/
theorem runs_addRegs {s : State} {d a b : Reg} {e : MicroAddr} (h : Dispatches s none e) (hm : e.val + 1 < 127)
    (hm' : e + 1 ≠ 0)
    (hw : cs e = { selMpc := some .increment, selOp1 := some (op1For a), selOp2 := some (op2For b), aluOp := some .add })
    (hw' : cs (e + 1) = latchEndWord .alu d) : Runs 3 s (addRegs d a b e s) :=
  runs_arith h hm hm' hw hw' (by rw [op1For_reg]) (by simp)

/-- `OP Ra,Rb` (R223 to R226). -/
theorem runs_arithRegs {s : State} {op : AluOp} {a b : Reg} {e : MicroAddr} (h : Dispatches s none e) (hm : e.val + 1 < 127)
    (hm' : e + 1 ≠ 0)
    (hw : cs e = { selMpc := some .increment, selOp1 := some (op1For a), selOp2 := some (op2For b), aluOp := some op })
    (hw' : cs (e + 1) = latchEndWord .alu a) : Runs 3 s (arithRegs op a b e s) :=
  runs_arith h hm hm' hw hw' (by rw [op1For_reg]) (by simp)

/-- `INC Rd`, `DEC Rd` (R227, R228). -/
theorem runs_arithOne {s : State} {op : AluOp} {d : Reg} {e : MicroAddr} (h : Dispatches s none e) (hm : e.val + 1 < 127)
    (hm' : e + 1 ≠ 0) (hw : cs e = { selMpc := some .increment, selOp1 := some (op1For d), aluOp := some op })
    (hw' : cs (e + 1) = latchEndWord .alu d) : Runs 3 s (arithOne op d e s) :=
  runs_arith (b := none) h hm hm' hw hw' (by rw [op1For_reg]) rfl

/-- The micro-word of a CMP (R229, R230): a subtraction has a result, so it never raises. -/
theorem runs_compareFinish {s : State} {a : Reg} {b : Op2Sel} (hs : s.status = .running)
    (hw : s.mw = { selIp := some .inc, selMpc := some .null, selOp1 := some (op1For a), selOp2 := some b, aluOp := some .sub,
                   latchIp := true }) : Runs 1 s (compareFinish (s.reg a) (s.op2Source b) s) := by
  have ht := ticked_compare hs hw
  rw [op1For_reg, compareFinish_eq] at ht
  refine ⟨_, compareFinish_eq _ _ _, .returns ?_ rfl⟩
  rw [tick_of_running hs (by rw [hw]), ht]

/-- `CMP Ra,Rb` (R229). -/
theorem runs_cmpRegs {s : State} {a b : Reg} {e : MicroAddr} (h : Dispatches s none e)
    (hw : cs e = { selIp := some .inc, selMpc := some .null, selOp1 := some (op1For a), selOp2 := some (op2For b),
                   aluOp := some .sub, latchIp := true }) : Runs 2 s (cmpRegs a b e s) := by
  obtain ⟨t, ht, hwalk⟩ := runs_compareFinish (s := s.dispatch none e) h.running hw
  rw [op2Source_op2For, reg_dispatch, reg_dispatch] at ht
  exact ⟨t, ht, h.walk hwalk⟩

/-- `CMP Rd,#n` (R230). -/
theorem runs_cmpImm {s : State} {a : Reg} {n : Word} {e : MicroAddr} (h : Dispatches s (some n) e)
    (hw : cs e = { selIp := some .inc, selMpc := some .null, selOp1 := some (op1For a), selOp2 := some .or,
                   aluOp := some .sub, latchIp := true }) : Runs 2 s (cmpImm a e n s) := by
  obtain ⟨t, ht, hwalk⟩ := runs_compareFinish (s := s.dispatch (some n) e) h.running hw
  rw [reg_dispatch] at ht
  exact ⟨t, ht, h.walk hwalk⟩

/-- The branches (R250 to R254). -/
theorem runs_branch {s : State} {taken : Bool} {n : Word} (h : Dispatches s (some n) (if taken then 86 else 93)) :
    Runs 2 s (branch taken n s) := by
  cases taken with
  | true =>
    have h : Dispatches s (some n) 86 := h
    refine ⟨_, rfl, h.walk (.returns ?_ rfl)⟩
    rw [h.routine_tick rfl rfl, ticked_branch (s := s.dispatch (some n) 86) h.running rfl]
  | false =>
    have h : Dispatches s (some n) 93 := h
    refine ⟨_, rfl, h.walk (.returns ?_ rfl)⟩
    rw [h.routine_tick rfl rfl, ticked_branch (s := s.dispatch (some n) 93) h.running rfl]

/-- `OUT Rd` (R265). -/
theorem runs_outReg {s : State} {d : Reg} {e : MicroAddr} (h : Dispatches s none e)
    (hw : cs e = { selMux2 := some (mux2For d), selIp := some .inc, selMpc := some .null, output := true, latchIp := true }) :
    Runs 2 s (outReg d e s) := by
  have ht := h.routine_tick hw rfl
  rw [ticked_output (s := s.dispatch none e) h.running hw, mux2For_reg, reg_dispatch, dispatch_out] at ht
  cases ho : outAppend s.out (s.reg d) with
  | ok o =>
    simp only [ho] at ht
    exact ⟨_, outReg_of_ok ho, h.walk (.returns ht rfl)⟩
  | error c =>
    simp only [ho] at ht
    exact ⟨_, outReg_of_error ho, h.walk (.stops ht (raise_stops _ _))⟩

/-- `IN Rd` (R266). -/
theorem runs_inReg {s : State} {d : Reg} {e : MicroAddr} (h : Dispatches s none e)
    (hw : cs e = { selMux1 := some .input, selIp := some .inc, selMpc := some .null, latchReg := some (latchFor d),
                   inputAdvance := true, latchIp := true }) : Runs 2 s (inReg d e s) := by
  have ht := h.routine_tick hw rfl
  rw [ticked_input (s := s.dispatch none e) h.running hw, latchFor_reg, dispatch_inQ] at ht
  cases hh : inHead s.inQ with
  | error c =>
    simp only [hh] at ht
    exact ⟨_, inReg_of_error hh, h.walk (.stops ht (raise_stops _ _))⟩
  | ok v =>
    obtain ⟨c, q, hq, _, _⟩ := inHead_eq_ok hh
    have hp : inPop s.inQ = .ok q := by rw [hq]; rfl
    simp only [hh, hp] at ht
    exact ⟨_, inReg_of_ok hq hh, h.walk (.returns ht rfl)⟩

/-- `HALT` (R256): the decode tick raises, and it has no number argument to extract. -/
theorem runs_halt {s : State} (h : AtDecode s .halt) : Runs 1 s (execHalt s) := by
  obtain ⟨item, hir, hd⟩ := h.instruction
  refine ⟨_, rfl, .stops ?_ (raise_stops _ _)⟩
  rw [tick_of_ir h.running hir, ticked_decode_raises h.running h.microWord hir (resolve_halt hd), lastNumber_of_decode hd]
  rfl

/-! ## Every instruction -/

/-- From the decode tick on, the meaning of every instruction is where its ticks lead, and they are one more than the steps of its
routine (R100, R164). -/
theorem runs_exec {s : State} {i : Instr} (h : AtDecode s i) : Runs (1 + i.steps) s (exec i s) := by
  unfold exec
  cases i with
  | movR1 n | movR2 n | movR3 n => exact runs_movImm (h.dispatches_number rfl rfl) rfl
  | movR1R2 | movR2R1 | movR2R3 | movR3R2 | movR1R3 | movR3R1 => exact runs_movReg (h.dispatches rfl rfl) rfl
  | loadR1 n | loadR2 n | loadR3 n =>
    exact runs_loadDirect (h.dispatches_number rfl rfl) (by decide) (by decide) rfl rfl
  | loadR1AtR2 | loadR1AtR3 | loadR2AtR1 | loadR2AtR3 | loadR3AtR1 | loadR3AtR2 =>
    exact runs_loadIndirect (h.dispatches rfl rfl) (by decide) (by decide) (by decide) (by decide) rfl rfl rfl
  | storeR1 n | storeR2 n | storeR3 n =>
    exact runs_storeDirect (h.dispatches_number rfl rfl) (by decide) (by decide) rfl rfl
  | storeR1AtR2 | storeR1AtR3 | storeR2AtR1 | storeR2AtR3 | storeR3AtR1 | storeR3AtR2 =>
    exact runs_storeIndirect (h.dispatches rfl rfl) (by decide) (by decide) rfl rfl
  | addR1 | addR2 | addR3 => exact runs_addRegs (h.dispatches rfl rfl) (by decide) (by decide) rfl rfl
  | subR1R2 | subR2R1 | subR3R1 | subR1R3 | subR2R3 | subR3R2 | idivR1R2 | idivR2R1 | idivR3R1 | idivR1R3 | idivR2R3
  | idivR3R2 | divR1R2 | divR2R1 | divR3R1 | divR1R3 | divR2R3 | divR3R2 | mulR1R2 | mulR2R1 | mulR3R1 =>
    exact runs_arithRegs (h.dispatches rfl rfl) (by decide) (by decide) rfl rfl
  | incR1 | incR2 | incR3 | decR1 | decR2 | decR3 =>
    exact runs_arithOne (h.dispatches rfl rfl) (by decide) (by decide) rfl rfl
  | cmpR1 n | cmpR2 n | cmpR3 n => exact runs_cmpImm (h.dispatches_number rfl rfl) rfl
  | cmpR1R2 | cmpR2R3 | cmpR1R3 => exact runs_cmpRegs (h.dispatches rfl rfl) rfl
  | jmp n => exact runs_branch (taken := true) (h.dispatches_number rfl rfl)
  | jz n => exact runs_branch (h.dispatches_number rfl rfl)
  | jnz n => exact runs_branch (h.dispatches_number (by cases hz : s.z <;> rfl) rfl)
  | outR1 | outR2 | outR3 => exact runs_outReg (h.dispatches rfl rfl) rfl
  | inR1 | inR2 | inR3 => exact runs_inReg (h.dispatches rfl rfl) rfl
  | halt => exact runs_halt h

/-! ## A whole step (R210) -/

theorem step_of_boundary {s : State} (hs : s.status = .running) (hb : s.AtBoundary) : step s = runInstruction s := by
  rw [step, if_pos hs, if_pos hb]

/-- A step that fetches an instruction that decodes. -/
theorem step_of_decode {s : State} {item : Item} {i : Instr} (hs : s.status = .running) (hb : s.AtBoundary)
    (hi : imemRead s.imem s.pc = some item) (hd : decodeItem item = .ok i) : step s = exec i (s.fetched item) := by
  rw [step_of_boundary hs hb]
  simp only [runInstruction, hi, hd]

/-- A step that fetches from outside the program. -/
theorem step_of_outside {s : State} (hs : s.status = .running) (hb : s.AtBoundary) (hi : imemRead s.imem s.pc = none) :
    step s = .next (s.raise (.fatal (.instructionBoundsError s.pc))) := by
  rw [step_of_boundary hs hb]
  simp only [runInstruction, hi]

theorem tick_fetch {s : State} {item : Item} (hs : s.status = .running) (hb : s.AtBoundary)
    (hi : imemRead s.imem s.pc = some item) : tick s = .next (s.fetched item) := by
  obtain ⟨hm, hw⟩ := hb
  rw [tick_of_running hs (by rw [hw]; rfl), ticked_fetch hs hw hm hi]

theorem atDecode_fetched {s : State} {item : Item} {i : Instr} (hs : s.status = .running) (hd : decodeItem item = .ok i) :
    AtDecode (s.fetched item) i :=
  ⟨hs, rfl, item, rfl, hd⟩

/-- A step that fetches an instruction that decodes is a walk of 2 ticks and those of the routine. -/
theorem runs_step {s : State} {item : Item} {i : Instr} (hs : s.status = .running) (hb : s.AtBoundary)
    (hi : imemRead s.imem s.pc = some item) (hd : decodeItem item = .ok i) : Runs (2 + i.steps) s (step s) := by
  obtain ⟨t, ht, hwalk⟩ := runs_exec (atDecode_fetched hs hd)
  rw [step_of_decode hs hb hi hd, show 2 + i.steps = 1 + i.steps + 1 by omega]
  exact ⟨t, ht, .goesOn (tick_fetch hs hb hi) hs (by decide : (1 : MicroAddr) ≠ 0) hwalk⟩

/-- A step that fetches a miss walks the fetch tick and the decode tick. -/
theorem runs_step_miss {s : State} {item : Item} {x : DecodeReject} (hs : s.status = .running) (hb : s.AtBoundary)
    (hi : imemRead s.imem s.pc = some item) (hd : decodeItem item = .error x) : Runs 2 s (step s) := by
  rw [step_of_miss hs hb hi hd]
  refine ⟨_, rfl, .goesOn (tick_fetch hs hb hi) hs (by decide : (1 : MicroAddr) ≠ 0) (.stops ?_ (raise_stops _ _))⟩
  rw [tick_of_ir (s := s.fetched item) hs rfl,
    ticked_decode_raises (s := s.fetched item) hs rfl rfl (resolve_of_miss hd _)]

/-- A step that fetches from outside the program walks one tick. -/
theorem runs_step_outside {s : State} (hs : s.status = .running) (hb : s.AtBoundary) (hi : imemRead s.imem s.pc = none) :
    Runs 1 s (step s) := by
  rw [step_of_outside hs hb hi]
  refine ⟨_, rfl, .stops ?_ (raise_stops _ _)⟩
  rw [tick_of_running hs (by rw [hb.2]; rfl), ticked_fetch_outside hs hb.2 hi]

theorem steps_le (i : Instr) : i.steps ≤ 3 := by cases i <;> simp [Instr.steps]

theorem step_eq_ticksToBoundary_of_runs {s : State} {k : Nat} (h : Runs k s (step s)) (hk : k ≤ boundaryFuel) :
    step s = ticksToBoundary boundaryFuel s := by
  obtain ⟨t, ht, hwalk⟩ := h
  rw [ht, ticksToBoundary_of_walk hwalk hk]

/-- Settles O12: whether the fetch raises, the instruction is a miss or decodes, the step ends where its walk ends. -/
theorem stepIsTheTicksOfOneInstruction : Obligations.StepIsTheTicksOfOneInstruction := by
  intro s hs hb
  cases hi : imemRead s.imem s.pc with
  | none => exact step_eq_ticksToBoundary_of_runs (runs_step_outside hs hb hi) (by decide)
  | some item =>
    cases hd : decodeItem item with
    | error x => exact step_eq_ticksToBoundary_of_runs (runs_step_miss hs hb hi hd) (by decide)
    | ok i =>
      have hsteps := steps_le i
      exact step_eq_ticksToBoundary_of_runs (runs_step hs hb hi hd) (by unfold boundaryFuel; omega)

/-- Settles O13: the walk of a completed instruction takes its number of ticks exactly. -/
theorem completedInstructionTakesTwoPlusSteps : Obligations.CompletedInstructionTakesTwoPlusSteps := by
  intro s t item i hs hb hi hd hstep ht
  obtain ⟨u, hu, hwalk⟩ := runs_step hs hb hi hd
  cases hstep.symm.trans hu
  obtain ⟨hticks, htick⟩ := ticks_of_walk hwalk ht hs
  exact ⟨hticks, by rw [htick]; omega⟩

/-- Settles O10: the state after the fetch tick is `State.fetched`. -/
theorem stepRunsDecodedInstruction : Obligations.StepRunsDecodedInstruction :=
  fun _ _ _ hs hb hi hd => step_of_decode hs hb hi hd

/-- An item placed for the next step is what that step fetches (log 3). -/
theorem imemRead_withNextItem (s : State) (item : Item) :
    imemRead (s.withNextItem item).imem (s.withNextItem item).pc = some item := by
  have hpc : 0 ≤ (s.withNextItem item).pc.toInt := by
    simp only [State.withNextItem]
    split
    · assumption
    · decide
  rw [imemRead, if_pos hpc]
  exact placeAt_getElem _ item s.imem

/-- Settles O11: the placed word is fetched, and what it decodes to runs. -/
theorem placedWordRuns : Obligations.PlacedWordRuns := by
  intro s nbits w i h
  have hd : decodeItem (Item.ofWord (wordOfBits nbits w)) = .ok i := by
    unfold decodeTableWord decode at h
    cases hr : decodeItem (Item.ofWord (wordOfBits nbits w)) with
    | error x => rw [hr] at h; cases h
    | ok j => rw [hr] at h; cases h; rfl
  exact step_of_decode rfl ⟨rfl, rfl⟩ (imemRead_withNextItem s _) hd

/-- An address that is negative or not below the length of the program reads nothing (R66). -/
theorem imemRead_outside {m : List Item} {a : Word} (h : a.toInt < 0 ∨ (m.length : Int) ≤ a.toInt) : imemRead m a = none := by
  unfold imemRead
  split
  · next ha =>
    have htoNat := BitVec.toInt_eq_toNat_cond a
    have hlt := a.isLt
    apply List.getElem?_eq_none
    split at htoNat <;> omega
  · rfl

/-- Settles O14: the fetch tick raises and changes nothing else. -/
theorem fetchOutsideProgramRaises : Obligations.FetchOutsideProgramRaises :=
  fun _ hs hb hpc => step_of_outside hs hb (imemRead_outside hpc)

/-- Settles O15: the fetch tick, the extraction of the operand, and the raise. -/
theorem decodeMissState : Obligations.DecodeMissState :=
  fun _ _ _ hs hb hi hd => step_of_miss hs hb hi hd

end Sys2Proof.Refinement
end

section
/-! PROOF. Settles the statements on the invariant of the core, on progress and on runs (O16, O17, O18, O19, O20, O21, O22, O27). The
invariant is shown for a single tick; a step is its ticks and a run is its steps, so both follow by induction. -/

namespace Sys2Proof.Invariant

open Sys2Proof.Machine Sys2Proof.Laws Sys2Proof.Lines Sys2Proof.Frames Sys2Proof.Refinement

/-! ## The control store (41_control_store.md R190, R192) -/

theorem selMpc_isSome : ∀ a : MicroAddr, (cs a).selMpc.isSome = true := by decide
theorem selMpc_of_latchIp : ∀ a : MicroAddr, (cs a).latchIp = true → (cs a).selMpc = some .null := by decide
theorem addr_of_decode : ∀ a : MicroAddr, (cs a).decode = true → a = 1 := by decide
theorem addr_of_next : ∀ a : MicroAddr, (cs a).selMpc = some .next → a = 1 := by decide
theorem lt_of_increment : ∀ a : MicroAddr, (cs a).selMpc = some .increment → a.val + 1 < 127 := by decide

/-- Only the two fetch micro-words have `FETCH`, `DECODE` or `LATCH_OR`. -/
theorem routine_lines : ∀ a : MicroAddr, a ≠ 0 → a ≠ 1 →
    (cs a).fetch = false ∧ (cs a).decode = false ∧ (cs a).latchOr = false := by decide

/-! ## Where a line stands in the firing order (R161) -/

theorem fireLines_append (w : MicroWord) (ls ls' : List Line) (s : State) :
    fireLines w (ls ++ ls') s = fireLines w ls' (fireLines w ls s) := by
  induction ls generalizing s with
  | nil => rfl
  | cons l ls ih =>
    by_cases hs : s.status = .running
    · rw [List.cons_append, fireLines, fireLines, if_pos hs, if_pos hs, ih]
    · rw [fireLines_stopped hs, fireLines_stopped hs, fireLines_stopped hs]

/-- After the lines of a tick that did not raise, `mpc_sel` is what the micro-word carries: no line after `SEL_MPC` writes it. -/
theorem fireWord_mpcSel {s : State} {v : MpcSel} (hw : s.mw.selMpc = some v) (hrun : (fireWord s).status = .running) :
    (fireWord s).mpcSel = v := by
  have hsplit : fireWord s = fireLines s.mw (.selMpc :: firingOrder.drop 8) (fireLines s.mw (firingOrder.take 7) s) :=
    fireLines_append s.mw (firingOrder.take 7) (.selMpc :: firingOrder.drop 8) s
  rw [hsplit] at hrun ⊢
  generalize fireLines s.mw (firingOrder.take 7) s = u at hrun ⊢
  by_cases hu : u.status = .running
  · rw [fireLines, if_pos hu, fireLines_keeps (f := State.mpcSel)]
    · simp only [fireLine, hw, carried]
    · intro l hl _
      have hne : l ≠ .selMpc := by
        rintro rfl
        exact absurd hl (by decide)
      exact fireLine_keeps (mpcSel_writtenOnlyBy.line l hne) _
  · rw [fireLines_stopped hu] at hrun
    exact absurd hrun hu

/-- The lines of a tick that raised have not written `pc`: `LATCH_IP` is the last line, and it does not raise. -/
theorem fireWord_pc_of_raised {s : State} (hraised : (fireWord s).status ≠ .running) : (fireWord s).pc = s.pc := by
  have hsplit : fireWord s = fireLines s.mw [.latchIp] (fireLines s.mw (firingOrder.take 18) s) :=
    fireLines_append s.mw (firingOrder.take 18) [.latchIp] s
  have hkept : (fireLines s.mw (firingOrder.take 18) s).pc = s.pc := by
    refine fireLines_keeps (f := State.pc) (fun l hl _ => ?_) s
    have hne : l ≠ .latchIp := by
      rintro rfl
      exact absurd hl (by decide)
    exact fireLine_keeps (pc_writtenOnlyBy.line l hne) _
  rw [hsplit] at hraised ⊢
  generalize fireLines s.mw (firingOrder.take 18) s = u at hraised hkept ⊢
  by_cases hu : u.status = .running
  · have hlast : (fireLines s.mw [.latchIp] u).status = u.status := by
      rw [fireLines, if_pos hu]
      exact fireLine_keeps (f := State.status) (l := .latchIp) (fun _ _ => rfl) s.mw u
    exact absurd (hlast.trans hu) hraised
  · rw [fireLines_stopped hu, hkept]

/-! ## What a line keeps -/

theorem fireLine_memWf {w : MicroWord} {l : Line} {s : State} (h : s.MemWf) : (fireLine w l s).MemWf := by
  by_cases hl : l = .memWrite
  · subst hl
    refine strobe_elim (P := State.MemWf) h ?_
    unfold fireMemWrite
    split
    · next m hm => exact memWrite_wf hm h
    · exact h
  · rw [State.MemWf, fireLine_keeps (mem_writtenOnlyBy.line l hl)]
    exact h

/-- The output only grows at its end, by codes below 32768 (R42, R264). -/
theorem fireLine_out {w : MicroWord} {l : Line} {s : State} :
    ∃ o, (fireLine w l s).out = s.out ++ o ∧ ∀ c ∈ o, c < 32768 := by
  by_cases hl : l = .output
  · subst hl
    refine strobe_elim (P := fun t => ∃ o, t.out = s.out ++ o ∧ ∀ c ∈ o, c < 32768) ⟨[], by simp, by simp⟩ ?_
    refine orRaise_elim (P := fun t => ∃ o, t.out = s.out ++ o ∧ ∀ c ∈ o, c < 32768) (fun c _ => ⟨[], by simp, by simp⟩)
      fun o ho => ?_
    obtain ⟨_, rfl, hlt⟩ := outAppend_eq_ok ho
    exact ⟨[_], rfl, by simpa using hlt⟩
  · exact ⟨[], by rw [fireLine_keeps (out_writtenOnlyBy.line l hl), List.append_nil], by simp⟩

/-- The input is only taken from its head (R41, R263). -/
theorem fireLine_inQ {w : MicroWord} {l : Line} {s : State} : (fireLine w l s).inQ <:+ s.inQ := by
  by_cases hl : l = .inputAdvance
  · subst hl
    refine strobe_elim (P := fun t => t.inQ <:+ s.inQ) List.suffix_rfl ?_
    refine orRaise_elim (P := fun t => t.inQ <:+ s.inQ) (fun _ _ => List.suffix_rfl) fun q hq => ?_
    cases hs : s.inQ with
    | nil => rw [hs] at hq; cases hq
    | cons c t => rw [hs] at hq; cases hq; exact List.suffix_cons c _
  · rw [fireLine_keeps (inQ_writtenOnlyBy.line l hl)]

/-! ## The invariant across a tick (O19) -/

theorem tick_memWf {s t : State} (h : tick s = .next t) (hs : s.MemWf) : t.MemWf :=
  tick_induct h hs (fun _ _ _ => fireLine_memWf) (fun _ _ hu => hu) (fun _ _ hu => hu)

theorem tick_out {s t : State} (h : tick s = .next t) : ∃ o, t.out = s.out ++ o ∧ ∀ c ∈ o, c < 32768 := by
  refine tick_induct (P := fun u => ∃ o, u.out = s.out ++ o ∧ ∀ c ∈ o, c < 32768) h ⟨[], by simp, by simp⟩
    (fun l _ u hu => ?_) (fun _ _ hu => hu) (fun _ _ hu => hu)
  obtain ⟨o, ho, hlt⟩ := hu
  obtain ⟨o', ho', hlt'⟩ := fireLine_out (w := s.mw) (l := l) (s := u)
  refine ⟨o ++ o', by rw [ho', ho, List.append_assoc], fun c hc => ?_⟩
  exact (List.mem_append.1 hc).elim (hlt c) (hlt' c)

theorem tick_inQ {s t : State} (h : tick s = .next t) : t.inQ <:+ s.inQ :=
  tick_induct (P := fun u => u.inQ <:+ s.inQ) h List.suffix_rfl (fun _ _ _ hu => fireLine_inQ.trans hu)
    (fun _ _ hu => hu) (fun _ _ hu => hu)

/-- A tick leaves the micro-word read from the store, whatever it was, or leaves it alone (R27). -/
theorem tick_microWord {s t : State} (hs : s.status = .running) (h : tick s = .next t) (hw : s.mw = cs s.mpc) :
    t.mw = cs t.mpc := by
  obtain ⟨hrun, hstop⟩ := tickBookkeeping s t hs h
  by_cases ht : t.status = .running
  · exact (hrun ht).2.1
  · obtain ⟨hmpc, hmw, _⟩ := hstop ht
    rw [hmpc, hmw, hw]

/-- A tick that stays inside the instruction keeps `pc`: where `LATCH_IP` fires, the control unit returns to micro-address 0. -/
theorem tick_pc {s t : State} (hs : s.status = .running) (h : tick s = .next t) (hw : s.mw = cs s.mpc) (ht : t.mpc ≠ 0) :
    t.pc = s.pc := by
  cases hip : s.mw.latchIp with
  | false => exact pc_writtenOnlyBy.kept h hip
  | true =>
    have hsel : s.mw.selMpc = some .null := by
      rw [hw] at hip ⊢
      exact selMpc_of_latchIp _ hip
    obtain ⟨_, rfl⟩ := ticked_of_tick hs h
    by_cases hrun : (fireWord s).status = .running
    · rw [ticked_null rfl hrun (fireWord_mpcSel hsel hrun)] at ht
      exact absurd rfl ht
    · rw [ticked_of_raised rfl hrun, fireWord_pc_of_raised hrun]

/-- The operand register and the decoder's held operand agree after a tick that does not raise, and past the fetch tick `IR` holds
what stands at `pc`: the fetch tick, the decode tick, and the ticks of the routines. -/
theorem tick_operand_instruction {s t : State} (hinv : s.Inv) (hs : s.status = .running) (h : tick s = .next t) :
    (t.status = .running → t.orReg = t.decOperand) ∧
    (t.mpc ≠ 0 → ∃ item, t.ir = some item ∧ imemRead t.imem t.pc = some item) := by
  by_cases h0 : s.mpc = 0
  · have hw : s.mw = cs 0 := by rw [hinv.microWord, h0]
    obtain ⟨_, rfl⟩ := ticked_of_tick hs h
    cases hi : imemRead s.imem s.pc with
    | some item =>
      rw [ticked_fetch hs hw h0 hi]
      exact ⟨fun _ => hinv.operand hs, fun _ => ⟨item, rfl, hi⟩⟩
    | none =>
      rw [ticked_fetch_outside hs hw hi]
      exact ⟨fun ht => absurd ht (raise_stops _ _), fun ht => absurd h0 ht⟩
  · obtain ⟨item, hir, hi⟩ := hinv.instruction h0
    by_cases h1 : s.mpc = 1
    · have hw : s.mw = cs 1 := by rw [hinv.microWord, h1]
      obtain ⟨_, rfl⟩ := ticked_of_tick hs h
      cases hr : resolve item s.z with
      | ok a =>
        rw [ticked_decode hs hw hir hr]
        exact ⟨fun _ => rfl, fun _ => ⟨item, hir, hi⟩⟩
      | error c =>
        rw [ticked_decode_raises hs hw hir hr]
        exact ⟨fun ht => absurd ht (raise_stops _ _), fun _ => ⟨item, hir, hi⟩⟩
    · obtain ⟨hfetch, hdecode, hor⟩ := routine_lines s.mpc h0 h1
      rw [← hinv.microWord] at hfetch hdecode hor
      refine ⟨fun _ => ?_, fun ht => ⟨item, ?_, ?_⟩⟩
      · rw [orReg_writtenOnlyBy.kept h hor, decOperand_writtenOnlyBy.kept h hdecode, hinv.operand hs]
      · rw [ir_writtenOnlyBy.kept h hfetch, hir]
      · rw [imem_kept h, tick_pc hs h hinv.microWord ht, hi]

/-- Settles O19: part by part; a tick that is not taken changes nothing. -/
theorem tickKeepsInv : Obligations.TickKeepsInv := by
  intro s t hinv h
  by_cases hs : s.status = .running
  · obtain ⟨hoperand, hinstruction⟩ := tick_operand_instruction hinv hs h
    exact {
      microWord := tick_microWord hs h hinv.microWord
      memory := tick_memWf h hinv.memory
      output := by
        obtain ⟨o, ho, hlt⟩ := tick_out h
        rw [ho]
        exact fun c hc => (List.mem_append.1 hc).elim (hinv.output c) (hlt c)
      operand := hoperand
      instruction := hinstruction }
  · rw [tick_of_stopped hs] at h
    cases h
    exact hinv

/-! ## From a tick to a step: a step is its ticks (O12) -/

theorem step_of_running {s : State} (hs : s.status = .running) : step s = ticksToBoundary boundaryFuel s := by
  by_cases hb : s.AtBoundary
  · exact stepIsTheTicksOfOneInstruction s hs hb
  · rw [step, if_pos hs, if_neg hb]

theorem step_of_stopped {s : State} (hs : s.status ≠ .running) : step s = .next s := by
  rw [step, if_neg hs]

/-- What every tick carries from one state to the next, ticks up to a boundary carry. -/
theorem ticksToBoundary_induct {P : State → Prop} (htick : ∀ u v, tick u = .next v → P u → P v) :
    ∀ {n : Nat} {s t : State}, ticksToBoundary n s = .next t → P s → P t := by
  intro n
  induction n with
  | zero => intro s t h hs; cases h; exact hs
  | succ n ih =>
    intro s t h hs
    rw [ticksToBoundary] at h
    cases hu : tick s with
    | next u =>
      rw [hu] at h
      dsimp only at h
      split at h
      · exact ih h (htick s u hu hs)
      · cases h; exact htick s _ hu hs
    | fault f => rw [hu] at h; cases h
    | refused r => rw [hu] at h; cases h

/-- What every tick carries from one state to the next, every step carries. -/
theorem step_induct {P : State → Prop} (htick : ∀ u v, tick u = .next v → P u → P v) {s t : State}
    (h : step s = .next t) (hs : P s) : P t := by
  by_cases hrun : s.status = .running
  · rw [step_of_running hrun] at h
    exact ticksToBoundary_induct htick h hs
  · rw [step_of_stopped hrun] at h
    cases h
    exact hs

/-- Settles O18: by the ticks of the step. -/
theorem stepKeepsInv : Obligations.StepKeepsInv :=
  fun _ _ hinv h => step_induct (P := State.Inv) (fun u v huv hu => tickKeepsInv u v hu huv) h hinv

/-- Settles O27: by the ticks of the step. -/
theorem devicesAndProgramAcrossAStep : Obligations.DevicesAndProgramAcrossAStep := by
  intro s t h
  refine step_induct (P := fun u => u.imem = s.imem ∧ s.out <+: u.out ∧ u.inQ <:+ s.inQ) (fun u v huv hu => ?_) h
    ⟨rfl, ⟨[], List.append_nil _⟩, List.suffix_rfl⟩
  obtain ⟨himem, hout, hin⟩ := hu
  obtain ⟨o, ho, _⟩ := tick_out huv
  exact ⟨(imem_kept huv).trans himem, hout.trans ⟨o, ho.symm⟩, (tick_inQ huv).trans hin⟩

/-! ## Progress (O20, O21) -/

/-- The status is not ControlStoreBoundsError. -/
abbrev InStore (s : State) : Prop := ∀ n, s.status ≠ .error (.controlStoreBoundsError n)

theorem inStore_of_running {s : State} (h : s.status = .running) : InStore s := fun n => by rw [h]; exact Status.noConfusion

theorem inStore_resolve {s : State} {item : Item} {z : Bool} {c : Condition} (h : resolve item z = .error c) :
    InStore (s.raise c) := by
  unfold resolve at h
  split at h
  · cases h; exact fun n => by simp [Condition.status]
  · split at h <;> cases h
    exact fun n => by simp [Condition.status]

theorem inStore_mux1 {s t : State} {c : Condition} (h : s.mux1 = .error c) : InStore (t.raise c) := by
  rw [mux1_input (mux1Sel_of_error h)] at h
  unfold inHead at h
  split at h
  · cases h; exact fun n => by simp [Condition.status]
  · split at h <;> cases h
    exact fun n => by simp [Condition.status]

/-- No line raises ControlStoreBoundsError (R163, R279). -/
theorem fireLine_inStore {w : MicroWord} {l : Line} {s : State} (h : InStore s) : InStore (fireLine w l s) := by
  cases l with
  | fetch =>
    refine strobe_elim (P := InStore) h ?_
    unfold fireFetch
    split
    · exact h
    · exact fun n => by simp [Condition.status]
  | decode =>
    refine strobe_elim (P := InStore) h ?_
    unfold fireDecode
    split
    · exact orRaise_elim (P := InStore) (fun _ => inStore_resolve) fun _ _ => h
    · exact h
  | memRead =>
    refine strobe_elim (P := InStore) h ?_
    unfold fireMemRead
    split
    · exact h
    · exact fun n => by simp [Condition.status]
  | memWrite =>
    refine strobe_elim (P := InStore) h ?_
    unfold fireMemWrite
    split
    · exact h
    · exact fun n => by simp [Condition.status]
  | aluOp =>
    refine carried_elim (P := InStore) h fun op => orRaise_elim (P := InStore) (fun c hc => ?_) fun t ht => ?_
    · rw [(operate_eq_error hc).2]
      exact fun n => by simp [Condition.status]
    · obtain ⟨r, _, rfl⟩ := operate_eq_ok ht
      exact h
  | latchReg =>
    refine carried_elim (P := InStore) h fun r => orRaise_elim (P := InStore) (fun _ => inStore_mux1) fun v _ => ?_
    exact fun n => by rw [setReg_status]; exact h n
  | output =>
    refine strobe_elim (P := InStore) h (orRaise_elim (P := InStore) (fun c hc => ?_) fun _ _ => h)
    unfold outAppend at hc
    split at hc <;> cases hc
    exact fun n => by simp [Condition.status]
  | inputAdvance =>
    refine strobe_elim (P := InStore) h (orRaise_elim (P := InStore) (fun c hc => ?_) fun _ _ => h)
    unfold inPop at hc
    split at hc <;> cases hc
    exact fun n => by simp [Condition.status]
  | latchOr | latchAr | latchDr | latchIp => exact strobe_elim (P := InStore) h h
  | selMux2 | selMux3 | selMux1 | selIp | selMpc | selOp1 | selOp2 =>
    rw [fireLine]
    exact carried_elim (P := InStore) h fun _ => h

/-- A micro-word that increments is not the last of the store, so the next micro-address exists (R162, R279). -/
theorem ticked_inStore {s : State} (hw : s.mw = cs s.mpc) (hs : s.status = .running) : InStore s.ticked := by
  by_cases hrun : (fireWord s).status = .running
  · obtain ⟨v, hv⟩ := Option.isSome_iff_exists.1 (selMpc_isSome s.mpc)
    have hsel := fireWord_mpcSel (hw ▸ hv) hrun
    have hmpc := (fireWord_control s).1
    refine inStore_of_running ?_
    cases v with
    | increment => rw [ticked_increment rfl hrun hsel (by rw [hmpc]; exact lt_of_increment _ hv)]; exact hrun
    | next => rw [ticked_next rfl hrun hsel]; exact hrun
    | null => rw [ticked_null rfl hrun hsel]; exact hrun
  · rw [ticked_of_raised rfl hrun]
    exact fireLines_induct (fun _ _ _ _ _ => fireLine_inStore) (inStore_of_running hs)

/-- `DECODE` never finds `IR` empty: it is in micro-word 1 alone, and there the fetch tick has loaded `IR` (R36). -/
theorem not_decodesNothing {s : State} (hinv : s.Inv) : s.decodesNothing = false := by
  unfold State.decodesNothing
  cases hd : s.mw.decode with
  | false => rfl
  | true =>
    have h1 : s.mpc = 1 := addr_of_decode _ (hinv.microWord ▸ hd)
    obtain ⟨item, hir, _⟩ := hinv.instruction (by rw [h1]; decide)
    rw [hir]
    exact Bool.and_false _

theorem tick_eq_ticked {s : State} (hinv : s.Inv) (hs : s.status = .running) : tick s = .next s.ticked := by
  rw [tick, if_pos hs, not_decodesNothing hinv]
  rfl

/-- Settles O21: `DECODE` finds an instruction, and the next micro-address is in the store. -/
theorem tickAnswersNext : Obligations.TickAnswersNext :=
  fun s hinv hs => ⟨s.ticked, tick_eq_ticked hinv hs, ticked_inStore hinv.microWord hs⟩

/-- The most ticks from a micro-address to the next boundary: the routines have at most three micro-words (R100). -/
def ticksLeft (a : MicroAddr) : Nat :=
  if a = 0 then 5
  else if a = 1 then 4
  else if (cs a).selMpc = some .null then 1
  else if (cs (a + 1)).selMpc = some .null then 2
  else 3

theorem ticksLeft_pos (a : MicroAddr) : 0 < ticksLeft a := by
  unfold ticksLeft
  split_ifs <;> decide

theorem ticksLeft_le (a : MicroAddr) : ticksLeft a ≤ boundaryFuel := by
  unfold ticksLeft boundaryFuel
  split_ifs <;> decide

theorem ticksLeft_increment : ∀ a : MicroAddr, (cs a).selMpc = some .increment → ticksLeft (a + 1) < ticksLeft a := by
  decide

theorem ticksLeft_routine : ∀ a : MicroAddr, a ≠ 0 → a ≠ 1 → ticksLeft a < ticksLeft 1 := by
  decide

/-- An execution routine is never entered at micro-address 1 (R100). -/
theorem entry_ne_one {i : Instr} {z : Bool} {e : MicroAddr} (h : i.entry z = some e) : e ≠ 1 := by
  cases i <;> cases z <;> simp [Instr.entry] at h <;> subst h <;> decide

/-- What resolution answers is the entry of a routine (R157). -/
theorem resolve_eq_ok {item : Item} {z : Bool} {e : MicroAddr} (h : resolve item z = .ok e) : e ≠ 0 ∧ e ≠ 1 := by
  unfold resolve at h
  split at h
  · cases h
  · split at h
    · next i _ a ha => cases h; exact ⟨entry_ne_zero ha, entry_ne_one ha⟩
    · cases h

/-- A tick that stays inside an instruction leaves fewer ticks to go. -/
theorem ticksLeft_ticked {s : State} (hinv : s.Inv) (hs : s.status = .running) (ht : s.ticked.status = .running)
    (hm : s.ticked.mpc ≠ 0) : ticksLeft s.ticked.mpc < ticksLeft s.mpc := by
  by_cases hrun : (fireWord s).status = .running
  · obtain ⟨v, hv⟩ := Option.isSome_iff_exists.1 (selMpc_isSome s.mpc)
    have hsel := fireWord_mpcSel (hinv.microWord ▸ hv) hrun
    have hmpc := (fireWord_control s).1
    cases v with
    | increment =>
      rw [ticked_increment rfl hrun hsel (by rw [hmpc]; exact lt_of_increment _ hv), goTo_mpc, hmpc]
      exact ticksLeft_increment _ hv
    | next =>
      have h1 : s.mpc = 1 := addr_of_next _ hv
      have hw : s.mw = cs 1 := by rw [hinv.microWord, h1]
      obtain ⟨item, hir, _⟩ := hinv.instruction (by rw [h1]; decide)
      cases hr : resolve item s.z with
      | ok e =>
        obtain ⟨h0, h1'⟩ := resolve_eq_ok hr
        rw [ticked_decode hs hw hir hr, dispatch_mpc, h1]
        exact ticksLeft_routine e h0 h1'
      | error c =>
        rw [ticked_decode_raises hs hw hir hr] at ht
        exact absurd ht (raise_stops _ _)
    | null =>
      rw [ticked_null rfl hrun hsel] at hm
      exact absurd rfl hm
  · rw [ticked_of_raised rfl hrun] at ht
    exact absurd ht hrun

/-- With enough ticks the control unit comes to a boundary or stops. -/
theorem ticksToBoundary_answers {n : Nat} : ∀ {s : State}, s.Inv → s.status = .running → ticksLeft s.mpc ≤ n →
    ∃ t, ticksToBoundary n s = .next t ∧ (t.AtBoundary ∨ t.status ≠ .running) := by
  induction n with
  | zero => exact fun _ _ hle => absurd hle (Nat.not_le_of_lt (ticksLeft_pos _))
  | succ n ih =>
    intro s hinv hs hle
    have htick := tick_eq_ticked hinv hs
    have hinv' := tickKeepsInv s _ hinv htick
    simp only [ticksToBoundary, htick]
    split
    · next hgo => exact ih hinv' hgo.1 (Nat.le_of_lt_succ (Nat.lt_of_lt_of_le (ticksLeft_ticked hinv hs hgo.1 hgo.2) hle))
    · next hend =>
      refine ⟨_, rfl, ?_⟩
      by_cases ht : s.ticked.status = .running
      · have hm : s.ticked.mpc = 0 := by
          by_contra hm
          exact hend ⟨ht, hm⟩
        exact .inl ⟨hm, by rw [hinv'.microWord, hm]⟩
      · exact .inr ht

/-- Settles O20: from a Running state by its ticks, from a terminal one by standing still. -/
theorem stepAnswersNext : Obligations.StepAnswersNext := by
  intro s hinv
  by_cases hs : s.status = .running
  · rw [step_of_running hs]
    exact ticksToBoundary_answers hinv hs (ticksLeft_le _)
  · exact ⟨s, step_of_stopped hs, .inr hs⟩

/-! ## Runs (O16, O17, O22) -/

theorem run_succ_of_step {k : Nat} {s t : State} (h : step s = .next t) :
    Sys2Proof.core.run (k + 1) s = Sys2Proof.core.run k t := by
  simp only [Host.Core.run, core, h]

/-- Settles O16: no step, no tick and so no run leaves a terminal status. -/
theorem terminalStatusIsFinal : Obligations.TerminalStatusIsFinal := by
  refine fun s hs => ⟨step_of_stopped hs, tick_of_stopped hs, fun k => ?_⟩
  induction k with
  | zero => rfl
  | succ k ih => rw [run_succ_of_step (step_of_stopped hs), ih]

/-- The state a launch builds meets the invariant where its memory is canonical. -/
theorem inv_of_launch (imem : List Item) (inQ : List Nat) {mem : List (Nat × Word)} (hm : Memory.wf mem = true) :
    ({ State.reset with imem := imem, mem := mem, inQ := inQ } : State).Inv where
  microWord := rfl
  memory := hm
  output := fun _ hc => absurd hc List.not_mem_nil
  operand := fun _ => rfl
  instruction := fun h => absurd rfl h

/-- Settles O17: the reset state is that of the empty launch. -/
theorem resetMeetsInv : Obligations.ResetMeetsInv := inv_of_launch [] [] rfl

/-- Runs from a state that meets the invariant answer a state that meets it, with the same program and an end of the input. -/
theorem run_answers (k : Nat) : ∀ {s : State}, s.Inv →
    ∃ t, Sys2Proof.core.run k s = .next t ∧ t.Inv ∧ t.imem = s.imem ∧ t.inQ <:+ s.inQ := by
  induction k with
  | zero => exact fun hinv => ⟨_, rfl, hinv, rfl, List.suffix_rfl⟩
  | succ k ih =>
    intro s hinv
    obtain ⟨u, hu, _⟩ := stepAnswersNext s hinv
    obtain ⟨himem, _, hin⟩ := devicesAndProgramAcrossAStep s u hu
    obtain ⟨t, ht, hinv', himem', hin'⟩ := ih (stepKeepsInv s u hinv hu)
    exact ⟨t, (run_succ_of_step hu).trans ht, hinv', himem'.trans himem, hin'.trans hin⟩

/-- Settles O22: the launch's state meets the invariant, and every run from there does. -/
theorem runsOfALaunch : Obligations.RunsOfALaunch := by
  intro l s h
  have hm := load_memWf h
  unfold State.load at h
  split at h <;> cases h
  exact fun k => run_answers k (inv_of_launch l.text l.input hm)

end Sys2Proof.Invariant
end

section
/-! PROOF. Settles the statement on the loader (O23): the loader's checks are the bounds of 70_reset_and_hazards.md R302, and the memory
it builds reads as the data image followed by zeros. -/

namespace Sys2Proof.Loading

open Sys2Proof.Machine

/-! ## What the loader checks (R83, R68, R302) -/

theorem argWellFormed_iff (a : Arg) : a.wellFormed = true ↔ ∀ v ∈ argNumbers a, -32768 ≤ v ∧ v ≤ 65535 := by
  cases a <;> simp [Arg.wellFormed, argNumbers]

theorem recordWellFormed_iff (r : Record) : r.wellFormed = true ↔ ∀ v ∈ recordNumbers r, -32768 ≤ v ∧ v ≤ 65535 := by
  obtain ⟨op, _ | a | ⟨a, b⟩⟩ := r
  · simp [Record.wellFormed, Args.wellFormed, recordNumbers]
  · exact argWellFormed_iff a
  · simp only [Record.wellFormed, Args.wellFormed, recordNumbers, Bool.and_eq_true, argWellFormed_iff, List.forall_mem_append]

theorem text_loadable_iff (text : List Item) : text.all itemLoadable = true ↔
    (∀ r : Record, .record r ∈ text → ∀ v ∈ recordNumbers r, -32768 ≤ v ∧ v ≤ 65535) ∧
    ∀ w : InstrWord, .malformed w ∈ text → wordWellFormed w = false := by
  rw [List.all_eq_true]
  constructor
  · exact fun h => ⟨fun r hr => (recordWellFormed_iff r).1 (h _ hr), fun w hw => by simpa [itemLoadable] using h _ hw⟩
  · rintro ⟨hrecord, hmalformed⟩ (r | w) hx
    · exact (recordWellFormed_iff r).2 (hrecord r hx)
    · simp [itemLoadable, hmalformed w hx]

theorem data_loadable_iff (data : List Int) :
    dataImageWellFormed data = true ↔ data.length ≤ 1024 ∧ ∀ v ∈ data, -32768 ≤ v ∧ v ≤ 65535 := by
  simp [dataImageWellFormed, dataWellFormed]

theorem launchWellFormed_iff (l : Launch) : launchWellFormed l = true ↔
    (∀ r : Record, .record r ∈ l.text → ∀ v ∈ recordNumbers r, -32768 ≤ v ∧ v ≤ 65535) ∧
    (∀ w : InstrWord, .malformed w ∈ l.text → wordWellFormed w = false) ∧ l.text.length ≤ 32768 ∧
    l.data.length ≤ 1024 ∧ ∀ v ∈ l.data, -32768 ≤ v ∧ v ≤ 65535 := by
  rw [launchWellFormed, Bool.and_eq_true, Bool.and_eq_true, text_loadable_iff, data_loadable_iff, decide_eq_true_iff,
    and_assoc, and_assoc]

/-! ## The memory of a data image (R68) -/

/-- Nothing is listed below the address an image is loaded at. -/
theorem read_image_below (data : List Int) : ∀ {k a : Nat}, a < k → Memory.read (Memory.image k data) a = 0 := by
  induction data with
  | nil => exact fun _ => rfl
  | cons v data ih =>
    intro k a ha
    unfold Memory.image
    split
    · exact ih (Nat.lt_succ_of_lt ha)
    · rw [Memory.read_cons, if_neg (Nat.ne_of_lt ha)]
      exact ih (Nat.lt_succ_of_lt ha)

/-- Element `i` of an image loaded at `k` is the word at `k + i`, after `wrap16`; past the image every word is 0. -/
theorem read_image (data : List Int) :
    ∀ k i : Nat, Memory.read (Memory.image k data) (k + i) = (data[i]?.map wrap16).getD 0 := by
  induction data with
  | nil => exact fun _ _ => rfl
  | cons v data ih =>
    intro k i
    unfold Memory.image
    cases i with
    | zero =>
      rw [Nat.add_zero k]
      split
      · next hv => rw [read_image_below data (Nat.lt_add_one k)]; exact hv.symm
      · rw [Memory.read_cons, if_pos rfl]; rfl
    | succ i =>
      have hi : k + (i + 1) = k + 1 + i := by omega
      rw [hi]
      split
      · exact ih (k + 1) i
      · rw [Memory.read_cons, if_neg (by omega)]
        exact ih (k + 1) i

/-- Settles O23: the checks are the bounds, and the rest of the state is written out in `State.load`. -/
theorem loadBuildsResetState : Obligations.LoadBuildsResetState := by
  intro l
  dsimp only
  rw [← launchWellFormed_iff]
  refine ⟨fun h => if_neg h, fun h => ⟨_, if_pos h, rfl, fun a ha => ?_, fun a ha => ?_⟩⟩
  · have hread := read_image l.data 0 a
    rw [Nat.zero_add, List.getElem?_eq_getElem ha] at hread
    exact hread
  · have hread := read_image l.data 0 a
    rw [Nat.zero_add, List.getElem?_eq_none ha] at hread
    exact hread

end Sys2Proof.Loading
end

section
/-! PROOF. Settles the division law (O32): the floor quotient of two 16-bit numbers fits 16 bits but for one pair, and its remainder
always does. -/

namespace Sys2Proof.Division

open Sys2Proof.Machine Sys2Proof.Alu

/-! ## The signed range of a word (R11) -/

theorem toInt_bounds (a : Word) : -32768 ≤ a.toInt ∧ a.toInt ≤ 32767 := by
  have hlow := BitVec.le_toInt a
  have hhigh := BitVec.toInt_lt (x := a)
  omega

/-- `wrap16` keeps a number that fits 16 bits (R11). -/
theorem toInt_wrap16 {n : Int} (h : -32768 ≤ n ∧ n ≤ 32767) : (wrap16 n).toInt = n := by
  rw [wrap16, BitVec.toInt_ofInt]
  exact Int.bmod_eq_of_le (by norm_num; omega) (by norm_num; omega)

theorem toInt_ne_zero {b : Word} (h : b ≠ 0) : b.toInt ≠ 0 := fun hb => h (BitVec.eq_of_toInt_eq hb)

/-! ## Floor division (00_scope.md R13) -/

/-- The remainder of the floor quotient has size below the divisor and its sign. -/
theorem fmod_bounds (a b : Int) :
    (0 < b → 0 ≤ Int.fmod a b ∧ Int.fmod a b < b) ∧ (b < 0 → b < Int.fmod a b ∧ Int.fmod a b ≤ 0) := by
  refine ⟨fun h => ⟨Int.fmod_nonneg_of_pos a h, Int.fmod_lt_of_pos a h⟩, fun h => ?_⟩
  have hneg : Int.fmod a b = -Int.fmod (-a) (-b) := by rw [Int.neg_fmod_neg, neg_neg]
  have h0 := Int.fmod_nonneg_of_pos (-a) (Int.neg_pos.2 h)
  have h1 := Int.fmod_lt_of_pos (-a) (Int.neg_pos.2 h)
  omega

theorem fdiv_law (a b : Int) : a = b * Int.fdiv a b + Int.fmod a b := (Int.mul_fdiv_add_fmod a b).symm

/-- The floor quotient of two 16-bit numbers is at most 32768, and that only for -32768 by -1. -/
theorem fdiv_bounds {a b : Int} (ha : -32768 ≤ a ∧ a ≤ 32767) (hb : b ≠ 0) :
    -32768 ≤ Int.fdiv a b ∧ Int.fdiv a b ≤ 32768 ∧ (Int.fdiv a b = 32768 → a = -32768 ∧ b = -1) := by
  have hlaw := fdiv_law a b
  obtain ⟨hpos, hneg⟩ := fmod_bounds a b
  generalize Int.fdiv a b = q at hlaw ⊢
  generalize Int.fmod a b = r at hlaw hpos hneg
  obtain hb | hb := lt_or_gt_of_ne hb
  · obtain ⟨hr, hr'⟩ := hneg hb
    refine ⟨?_, ?_, ?_⟩
    · by_contra hq; nlinarith
    · by_contra hq; nlinarith
    · rintro rfl; exact ⟨by omega, by omega⟩
  · obtain ⟨hr, hr'⟩ := hpos hb
    refine ⟨?_, ?_, ?_⟩
    · by_contra hq; nlinarith
    · by_contra hq; nlinarith
    · rintro rfl; omega

theorem fmod_fits {a b : Word} (hb : b ≠ 0) : -32768 ≤ Int.fmod a.toInt b.toInt ∧ Int.fmod a.toInt b.toInt ≤ 32767 := by
  obtain ⟨hpos, hneg⟩ := fmod_bounds a.toInt b.toInt
  have hbounds := toInt_bounds b
  have hne := toInt_ne_zero hb
  omega

theorem alu_div_of_ne {a b : Word} (hb : b ≠ 0) : alu .div a b = some (wrap16 (Int.fdiv a.toInt b.toInt)) :=
  alu_div (toInt_ne_zero hb)

theorem alu_idiv_of_ne {a b : Word} (hb : b ≠ 0) : alu .idiv a b = some (wrap16 (Int.fmod a.toInt b.toInt)) := by
  rw [alu_idiv (toInt_ne_zero hb), Int.fmod_def]

/-- Settles O32: the remainder is read off its bounds, and the quotient off its own but for -32768 by -1. -/
theorem divIdivFloorLaw : Obligations.DivIdivFloorLaw := by
  intro a b hb
  have hr := toInt_wrap16 (fmod_fits (a := a) hb)
  obtain ⟨hpos, hneg⟩ := fmod_bounds a.toInt b.toInt
  refine ⟨_, _, alu_div_of_ne hb, alu_idiv_of_ne hb, by rw [hr]; exact hpos, by rw [hr]; exact hneg, fun hfits => ?_, ?_⟩
  · obtain ⟨hlow, hhigh, htop⟩ := fdiv_bounds (toInt_bounds a) (toInt_ne_zero hb)
    have hq : Int.fdiv a.toInt b.toInt ≠ 32768 := fun hq => hfits (htop hq)
    rw [hr, toInt_wrap16 ⟨hlow, by omega⟩]
    exact fdiv_law _ _
  · rintro ⟨ha, hb'⟩
    rw [ha, hb']
    decide

end Sys2Proof.Division
end

section
/-! PROOF. Settles the statements on the results of single instructions: data transfer (O34, O37 to O43, O56, O57), arithmetic and
compare (O44 to O50, O52, O58), branches and HALT (O51, O55), input and output (O53, O54, O59). A list of forms is one shared meaning at
the entries of the list, so each statement is one equation about that meaning. -/

namespace Sys2Proof.Results

open Sys2Proof.Machine Sys2Proof.Lines Sys2Proof.Alu Sys2Proof.Division Sys2Proof.Meanings

/-! ## Reading the parts of a next state -/

theorem sameMemory_of_mem {s t : State} (h : t.mem = s.mem) : SameMemory s t := fun a => by rw [h]

theorem sameMemory_setReg {s x : State} {d : Reg} {v : Word} (h : x.mem = s.mem) : SameMemory s (x.setReg d v) :=
  sameMemory_of_mem ((setReg_mem x d v).trans h)

theorem regsSet_setReg_of_sameRegs {s x : State} {d : Reg} {v : Word} (h : SameRegs s x) : RegsSet s (x.setReg d v) d v := by
  obtain ⟨hd, hother⟩ := regsSet_setReg x d v
  exact ⟨hd, fun r hr => (hother r hr).trans (h r)⟩

/-- A meaning that answers `x` with one register set, where `x` has the registers and the memory of `s`. -/
theorem completes_setReg {r : Result} {s x : State} {d : Reg} {v : Word} (h : r = .next (x.setReg d v)) (hregs : SameRegs s x)
    (hmem : x.mem = s.mem) : ∃ t, r = .next t ∧ t = x.setReg d v ∧ RegsSet s t d v ∧ SameMemory s t :=
  ⟨_, h, rfl, regsSet_setReg_of_sameRegs hregs, sameMemory_setReg hmem⟩

/-- A meaning that answers a state with the registers and the memory of `s`. -/
theorem completes_same {r : Result} {s x : State} (h : r = .next x) (hregs : SameRegs s x) (hmem : x.mem = s.mem) :
    ∃ t, r = .next t ∧ t = x ∧ SameRegs s t ∧ SameMemory s t :=
  ⟨_, h, rfl, hregs, sameMemory_of_mem hmem⟩

theorem memRead_inMemory {m : List (Nat × Word)} {a : Word} (h : InMemory a) : memRead m a = some (Memory.read m a.toNat) :=
  memRead_eq_some.2 ⟨(addressInRange_iff a).2 h, rfl⟩

theorem memWrite_inMemory {m : List (Nat × Word)} {a v : Word} (h : InMemory a) :
    memWrite m a v = some (Memory.write m a.toNat v) :=
  memWrite_eq_some.2 ⟨(addressInRange_iff a).2 h, rfl⟩

/-- Settles O34: the write at an address in range, by the rules of reading after writing; out of range by the range check. -/
theorem memWriteChangesOneWord : Obligations.MemWriteChangesOneWord := by
  refine fun m a v hm => ⟨fun ha => ?_, fun ha => memWrite_eq_none.2 (addressInRange_eq_false fun ⟨hlow, hhigh⟩ => by omega)⟩
  have hw := memWrite_inMemory (m := m) (v := v) ha
  have hread := memWrite_read hw hm
  refine ⟨_, hw, memWrite_wf hw hm, ?_, ?_, fun b hb => ?_⟩
  · rw [hread, if_pos rfl]
  · rw [memRead_inMemory ha, hread, if_pos rfl]
  · rw [hread, if_neg hb]

/-! ## Each list of forms is one shared meaning (R84, R100) -/

theorem exec_movImm {n : Word} {i : Instr} {d : Reg} {e : MicroAddr}
    (h : (i, d, e) ∈
      ([(.movR1 n, .r1, 2), (.movR2 n, .r2, 3), (.movR3 n, .r3, 4)] : List (Instr × Reg × MicroAddr)))
    (s : State) : exec i s = movImm d e n s := by
  fin_cases h <;> rfl

theorem exec_movReg {i : Instr} {d r : Reg} {e : MicroAddr}
    (h : (i, d, r, e) ∈
      ([(.movR1R2, .r1, .r2, 5), (.movR2R1, .r2, .r1, 6), (.movR2R3, .r2, .r3, 7), (.movR3R2, .r3, .r2, 8), (.movR1R3,
        .r1, .r3, 9), (.movR3R1, .r3, .r1, 10)] : List (Instr × Reg × Reg × MicroAddr)))
    (s : State) : exec i s = movReg d r e s := by
  fin_cases h <;> rfl

theorem exec_loadDirect {n : Word} {i : Instr} {d : Reg} {e : MicroAddr}
    (h : (i, d, e) ∈
      ([(.loadR1 n, .r1, 11), (.loadR2 n, .r2, 13), (.loadR3 n, .r3, 15)] : List (Instr × Reg × MicroAddr)))
    (s : State) : exec i s = loadDirect d e n s := by
  fin_cases h <;> rfl

theorem exec_loadIndirect {i : Instr} {d b : Reg} {e : MicroAddr}
    (h : (i, d, b, e) ∈
      ([(.loadR1AtR2, .r1, .r2, 23), (.loadR1AtR3, .r1, .r3, 26), (.loadR2AtR1, .r2, .r1, 29), (.loadR2AtR3, .r2, .r3,
        32), (.loadR3AtR1, .r3, .r1, 35), (.loadR3AtR2, .r3, .r2, 38)] : List (Instr × Reg × Reg × MicroAddr)))
    (s : State) : exec i s = loadIndirect d b e s := by
  fin_cases h <;> rfl

theorem exec_storeDirect {n : Word} {i : Instr} {r : Reg} {e : MicroAddr}
    (h : (i, r, e) ∈
      ([(.storeR1 n, .r1, 17), (.storeR2 n, .r2, 19), (.storeR3 n, .r3, 21)] : List (Instr × Reg × MicroAddr)))
    (s : State) : exec i s = storeDirect r e n s := by
  fin_cases h <;> rfl

theorem exec_storeIndirect {i : Instr} {r b : Reg} {e : MicroAddr}
    (h : (i, r, b, e) ∈
      ([(.storeR1AtR2, .r1, .r2, 41), (.storeR1AtR3, .r1, .r3, 43), (.storeR2AtR1, .r2, .r1, 45), (.storeR2AtR3, .r2,
        .r3, 47), (.storeR3AtR1, .r3, .r1, 49), (.storeR3AtR2, .r3, .r2, 51)] : List (Instr × Reg × Reg × MicroAddr)))
    (s : State) : exec i s = storeIndirect r b e s := by
  fin_cases h <;> rfl

theorem exec_add {i : Instr} {d a b : Reg} {e : MicroAddr}
    (h : (i, d, a, b, e) ∈
      ([(.addR1, .r1, .r2, .r3, 53), (.addR2, .r2, .r1, .r3, 55), (.addR3, .r3, .r1, .r2, 57)] : List (Instr × Reg × Reg × Reg × MicroAddr)))
    (s : State) : exec i s = addRegs d a b e s := by
  fin_cases h <;> rfl

theorem exec_sub {i : Instr} {a b : Reg} {e : MicroAddr}
    (h : (i, a, b, e) ∈
      ([(.subR1R2, .r1, .r2, 59), (.subR2R1, .r2, .r1, 61), (.subR3R1, .r3, .r1, 63), (.subR1R3, .r1, .r3, 103),
        (.subR2R3, .r2, .r3, 105), (.subR3R2, .r3, .r2, 107)] : List (Instr × Reg × Reg × MicroAddr)))
    (s : State) : exec i s = arithRegs .sub a b e s := by
  fin_cases h <;> rfl

theorem exec_mul {i : Instr} {a b : Reg} {e : MicroAddr}
    (h : (i, a, b, e) ∈
      ([(.mulR1R2, .r1, .r2, 115), (.mulR2R1, .r2, .r1, 117), (.mulR3R1, .r3, .r1, 119)] : List (Instr × Reg × Reg × MicroAddr)))
    (s : State) : exec i s = arithRegs .mul a b e s := by
  fin_cases h <;> rfl

theorem exec_div {i : Instr} {a b : Reg} {e : MicroAddr}
    (h : (i, a, b, e) ∈
      ([(.divR1R2, .r1, .r2, 71), (.divR2R1, .r2, .r1, 73), (.divR3R1, .r3, .r1, 75), (.divR1R3, .r1, .r3, 97),
        (.divR2R3, .r2, .r3, 99), (.divR3R2, .r3, .r2, 101)] : List (Instr × Reg × Reg × MicroAddr)))
    (s : State) : exec i s = arithRegs .div a b e s := by
  fin_cases h <;> rfl

theorem exec_idiv {i : Instr} {a b : Reg} {e : MicroAddr}
    (h : (i, a, b, e) ∈
      ([(.idivR1R2, .r1, .r2, 65), (.idivR2R1, .r2, .r1, 67), (.idivR3R1, .r3, .r1, 69), (.idivR1R3, .r1, .r3, 109),
        (.idivR2R3, .r2, .r3, 111), (.idivR3R2, .r3, .r2, 113)] : List (Instr × Reg × Reg × MicroAddr)))
    (s : State) : exec i s = arithRegs .idiv a b e s := by
  fin_cases h <;> rfl

theorem exec_dividing {i : Instr} {op : AluOp} {a b : Reg} {e : MicroAddr}
    (h : (i, op, a, b, e) ∈
      ([(.idivR1R2, .idiv, .r1, .r2, 65), (.idivR2R1, .idiv, .r2, .r1, 67), (.idivR3R1, .idiv, .r3, .r1, 69),
        (.idivR1R3, .idiv, .r1, .r3, 109), (.idivR2R3, .idiv, .r2, .r3, 111), (.idivR3R2, .idiv, .r3, .r2, 113),
        (.divR1R2, .div, .r1, .r2, 71), (.divR2R1, .div, .r2, .r1, 73), (.divR3R1, .div, .r3, .r1, 75), (.divR1R3,
        .div, .r1, .r3, 97), (.divR2R3, .div, .r2, .r3, 99), (.divR3R2, .div, .r3, .r2, 101)] : List (Instr × AluOp × Reg × Reg × MicroAddr)))
    (s : State) : exec i s = arithRegs op a b e s ∧ (op = .div ∨ op = .idiv) := by
  fin_cases h
  any_goals exact ⟨rfl, .inl rfl⟩
  all_goals exact ⟨rfl, .inr rfl⟩

/-- INC and DEC are the one-operand shape with an operation that adds `k`, which is 1 or -1. -/
theorem exec_incDec {i : Instr} {d : Reg} {k : Int} {e : MicroAddr}
    (h : (i, d, k, e) ∈
      ([(.incR1, .r1, 1, 77), (.incR2, .r2, 1, 79), (.incR3, .r3, 1, 81), (.decR1, .r1, (-1), 121), (.decR2, .r2, (-1),
        123), (.decR3, .r3, (-1), 125)] : List (Instr × Reg × Int × MicroAddr)))
    (s : State) : (∃ op, exec i s = arithOne op d e s ∧ ∀ x y, alu op x y = some (wrap16 (x.toInt + k))) ∧ (k = 1 ∨ k = -1) := by
  fin_cases h
  any_goals exact ⟨⟨.inc, rfl, fun _ _ => rfl⟩, .inl rfl⟩
  all_goals exact ⟨⟨.dec, rfl, fun _ _ => rfl⟩, .inr rfl⟩

theorem exec_cmpRegs {i : Instr} {a b : Reg} {e : MicroAddr}
    (h : (i, a, b, e) ∈
      ([(.cmpR1R2, .r1, .r2, 83), (.cmpR2R3, .r2, .r3, 84), (.cmpR1R3, .r1, .r3, 85)] : List (Instr × Reg × Reg × MicroAddr)))
    (s : State) : exec i s = cmpRegs a b e s := by
  fin_cases h <;> rfl

theorem exec_cmpImm {n : Word} {i : Instr} {a : Reg} {e : MicroAddr}
    (h : (i, a, e) ∈
      ([(.cmpR1 n, .r1, 94), (.cmpR2 n, .r2, 95), (.cmpR3 n, .r3, 96)] : List (Instr × Reg × MicroAddr)))
    (s : State) : exec i s = cmpImm a e n s := by
  fin_cases h <;> rfl

theorem exec_branch {n : Word} {i : Instr} {taken : Bool} {s : State}
    (h : (i, taken) ∈ ([(.jmp n, true), (.jz n, s.z), (.jnz n, !s.z)] : List (Instr × Bool))) :
    exec i s = branch taken n s := by
  fin_cases h <;> rfl

theorem exec_outReg {i : Instr} {d : Reg} {e : MicroAddr}
    (h : (i, d, e) ∈
      ([(.outR1, .r1, 87), (.outR2, .r2, 88), (.outR3, .r3, 89)] : List (Instr × Reg × MicroAddr)))
    (s : State) : exec i s = outReg d e s := by
  fin_cases h <;> rfl

theorem exec_inReg {i : Instr} {d : Reg} {e : MicroAddr}
    (h : (i, d, e) ∈
      ([(.inR1, .r1, 90), (.inR2, .r2, 91), (.inR3, .r3, 92)] : List (Instr × Reg × MicroAddr)))
    (s : State) : exec i s = inReg d e s := by
  fin_cases h <;> rfl

/-! ## MOV (R200, R201) -/

/-- Settles O37. -/
theorem movImmediateResult : Obligations.MovImmediateResult := by
  intro n i d e h s
  rw [exec_movImm h]
  exact completes_setReg (by cases d <;> rfl) (reg_congr rfl rfl rfl) rfl

/-- Settles O38. -/
theorem movRegisterResult : Obligations.MovRegisterResult := by
  intro i d r e h s
  rw [exec_movReg h]
  exact completes_setReg (by cases d <;> rfl) (reg_congr rfl rfl rfl) rfl

/-! ## LOAD (R203, R204) -/

/-- Settles O39: the read answers the word at `n`. -/
theorem loadDirectResult : Obligations.LoadDirectResult := by
  intro n i d e h s hn
  rw [exec_loadDirect h]
  have hload := loadFinish_of_some (d := d)
    (s := { s.dispatch (some n) e with mux3Sel := .operand, mpcSel := .increment, ar := n }) (memRead_inMemory hn)
  exact completes_setReg (hload.trans (by cases d <;> rfl)) (reg_congr rfl rfl rfl) rfl

/-- Settles O40: the read answers the word at the base register's address. -/
theorem loadIndirectResult : Obligations.LoadIndirectResult := by
  intro i d b e h s hb
  rw [exec_loadIndirect h]
  have hload := loadFinish_of_some (d := d) (s := State.nextWord
    { s.dispatch none e with mux2Sel := mux2For b, mux3Sel := .mux2, ar := s.effectiveAddress (.indirect b) })
    (memRead_inMemory hb)
  exact completes_setReg (hload.trans (by cases d <;> rfl)) (reg_congr rfl rfl rfl) rfl

/-- Settles O56: the read raises before anything is loaded. -/
theorem loadOutOfRangeTraps : Obligations.LoadOutOfRangeTraps := by
  refine ⟨fun n i d e h s hn => ?_, fun i d b e h s hb => ?_⟩
  · rw [exec_loadDirect h]
    exact loadFinish_of_none (memRead_eq_none.2 (addressInRange_eq_false hn))
  · rw [exec_loadIndirect h]
    exact loadFinish_of_none (memRead_eq_none.2 (addressInRange_eq_false hb))

/-! ## STORE (R206, R207) -/

/-- The last micro-word of a STORE, from a state with the registers and the memory of `s`, at an address in range. -/
theorem storeFinish_inMemory {r : Reg} {s u : State} (hregs : SameRegs s u) (hmem : u.mem = s.mem) (ha : InMemory u.ar) :
    storeFinish r u =
      .next ({ u with mux2Sel := mux2For r, mem := Memory.write s.mem u.ar.toNat (s.reg r) }.retire .inc) :=
  storeFinish_of_some (by rw [hmem, hregs r]; exact memWrite_inMemory ha)

/-- A meaning that answers a state with the registers of `s` and the memory of `s` with one word written. -/
theorem completes_write {res : Result} {s x : State} {a v : Word} (h : res = .next x) (hregs : SameRegs s x) (hm : s.MemWf)
    (ha : InMemory a) (hmem : x.mem = Memory.write s.mem a.toNat v) :
    res = .next x ∧ x.MemWf ∧ MemorySet s x a.toNat v ∧ SameRegs s x := by
  refine ⟨h, ?_, memorySet_write hm hmem, hregs⟩
  rw [State.MemWf, hmem]
  exact Memory.write_wf (toNat_lt_of_inRange ((addressInRange_iff a).2 ha)) hm

/-- Settles O41: the write of the register at `n`. -/
theorem storeDirectResult : Obligations.StoreDirectResult := by
  intro n i r e h s hm hn
  rw [exec_storeDirect h]
  have hstore := storeFinish_inMemory (r := r) (s := s) (u := State.nextWord
    { s.dispatch (some n) e with mux2Sel := mux2For r, mux3Sel := .operand, ar := n }) (reg_congr rfl rfl rfl) rfl hn
  obtain ⟨hnext, hwf, hset, hregs⟩ := completes_write (s := s) hstore (reg_congr rfl rfl rfl) hm hn rfl
  exact ⟨_, hnext, rfl, hwf, hset, hregs⟩

/-- Settles O42: the write of the register at the base register's address. -/
theorem storeIndirectResult : Obligations.StoreIndirectResult := by
  intro i r b e h s hm hb
  rw [exec_storeIndirect h]
  have hstore := storeFinish_inMemory (r := r) (s := s) (u := State.nextWord
    { s.dispatch none e with mux2Sel := mux2For b, mux3Sel := .mux2, ar := s.effectiveAddress (.indirect b) })
    (reg_congr rfl rfl rfl) rfl hb
  obtain ⟨hnext, hwf, hset, hregs⟩ := completes_write (s := s) hstore (reg_congr rfl rfl rfl) hm hb rfl
  exact ⟨_, hnext, rfl, hwf, hset, hregs⟩

/-- Settles O57: the write raises before anything is written. -/
theorem storeOutOfRangeTraps : Obligations.StoreOutOfRangeTraps := by
  refine ⟨fun n i r e h s hn => ?_, fun i r b e h s hb => ?_⟩
  · rw [exec_storeDirect h]
    exact storeFinish_of_none (memWrite_eq_none.2 (addressInRange_eq_false hn))
  · rw [exec_storeIndirect h]
    exact storeFinish_of_none (memWrite_eq_none.2 (addressInRange_eq_false hb))

/-- Settles O43: the STORE's word, read by the LOAD. -/
theorem storeThenLoadReturnsTheWord : Obligations.StoreThenLoadReturnsTheWord := by
  intro n x d s item hm hn
  obtain ⟨e, hstore⟩ : ∃ e, (storeImmForm n x, x, e) ∈
      ([(.storeR1 n, .r1, 17), (.storeR2 n, .r2, 19), (.storeR3 n, .r3, 21)] : List (Instr × Reg × MicroAddr)) := by
    cases x <;> simp [storeImmForm]
  obtain ⟨e', hload⟩ : ∃ e, (loadImmForm n d, d, e) ∈
      ([(.loadR1 n, .r1, 11), (.loadR2 n, .r2, 13), (.loadR3 n, .r3, 15)] : List (Instr × Reg × MicroAddr)) := by
    cases d <;> simp [loadImmForm]
  obtain ⟨t, ht, _, _, ⟨hword, _⟩, _⟩ := storeDirectResult n _ x e hstore s hm hn
  obtain ⟨u, hu, _, ⟨hreg, _⟩, _⟩ := loadDirectResult n _ d e' hload (t.fetched item) hn
  exact ⟨t, u, ht, hu, hreg.trans hword⟩

/-! ## Arithmetic (R220 to R228) -/

/-- A number of size below 65536 wraps to 0 only if it is 0 (R11). -/
theorem wrap16_eq_zero_iff {n : Int} (h : -65536 < n ∧ n < 65536) : wrap16 n = 0 ↔ n = 0 := by
  refine ⟨fun hz => ?_, fun hz => by rw [hz]; rfl⟩
  have hnat := congrArg BitVec.toNat hz
  rw [wrap16, BitVec.toNat_ofInt] at hnat
  change (n % 65536).toNat = 0 at hnat
  omega

theorem wrap16_sub_eq_zero_iff (a b : Word) : wrap16 (a.toInt - b.toInt) = 0 ↔ a = b := by
  rw [wrap16, ofInt_sub, BitVec.ofInt_toInt, BitVec.ofInt_toInt, sub_eq_zero]

/-- An arithmetic routine whose operation has a result, field by field. -/
theorem arith_completes {op : AluOp} {d : Reg} {e : MicroAddr} {a b v : Word} {s : State} (h : alu op a b = some v) :
    arith op d e a b s = .next (({ s with
      op1 := a, op2 := b, res := v, z := decide (v = 0), mux1Sel := .alu, orReg := s.decOperand, decEntry := e,
      ipSel := .inc, mpcSel := .null, pc := s.pcNext, mpc := 0, mw := cs 0, tick := s.tick + 3 } : State).setReg d v) := by
  rw [arith_of_some h]
  cases d <;> rfl

/-- The flag of a state that an arithmetic routine answers. -/
theorem z_setReg_iff {x : State} {d : Reg} {v w : Word} (h : x.z = decide (w = 0)) : (x.setReg d v).z = true ↔ w = 0 := by
  rw [setReg_z, h, decide_eq_true_iff]

/-- Settles O44. -/
theorem addResult : Obligations.AddResult := by
  intro i d a b e h s
  rw [exec_add h]
  exact completes_setReg (arith_completes (alu_add _ _)) (reg_congr rfl rfl rfl) rfl

/-- Settles O46. -/
theorem mulResult : Obligations.MulResult := by
  intro i a b e h s
  rw [exec_mul h]
  exact completes_setReg (arith_completes (alu_mul _ _)) (reg_congr rfl rfl rfl) rfl

/-- Settles O45: the difference wraps to 0 exactly for equal operands. -/
theorem subResult : Obligations.SubResult := by
  intro i a b e h s
  rw [exec_sub h]
  exact ⟨_, arith_completes (alu_sub _ _), rfl, regsSet_setReg_of_sameRegs (reg_congr rfl rfl rfl), sameMemory_setReg rfl,
    (z_setReg_iff rfl).trans (wrap16_sub_eq_zero_iff _ _)⟩

/-- Settles O47: the quotient is small enough to wrap to 0 only when it is 0. -/
theorem divResult : Obligations.DivResult := by
  intro i a b e h s hb
  rw [exec_div h]
  obtain ⟨hlow, hhigh, _⟩ := fdiv_bounds (toInt_bounds (s.reg a)) (toInt_ne_zero hb)
  exact ⟨_, arith_completes (alu_div_of_ne hb), rfl, regsSet_setReg_of_sameRegs (reg_congr rfl rfl rfl),
    sameMemory_setReg rfl, (z_setReg_iff rfl).trans (wrap16_eq_zero_iff ⟨by omega, by omega⟩)⟩

/-- Settles O48: the remainder fits 16 bits, so it is kept, and it is 0 exactly when the divisor divides. -/
theorem idivResult : Obligations.IdivResult := by
  intro i a b e h s hb
  rw [exec_idiv h]
  have hfits := fmod_fits (a := s.reg a) hb
  refine ⟨_, arith_completes (alu_idiv_of_ne hb), rfl, regsSet_setReg_of_sameRegs (reg_congr rfl rfl rfl),
    sameMemory_setReg rfl, ?_, ?_⟩
  · rw [reg_setReg, if_pos rfl, toInt_wrap16 hfits]
  · exact (z_setReg_iff rfl).trans ((wrap16_eq_zero_iff ⟨by omega, by omega⟩).trans Int.dvd_iff_fmod_eq_zero.symm)

/-- Settles O49: the operation adds 1 or -1, so the result wraps to 0 from -1 or 1 alone. -/
theorem incDecResult : Obligations.IncDecResult := by
  intro i d k e h s
  obtain ⟨⟨op, hexec, halu⟩, hk⟩ := exec_incDec h s
  rw [hexec]
  have hbounds := toInt_bounds (s.reg d)
  refine ⟨_, arith_completes (halu _ _), rfl, regsSet_setReg_of_sameRegs (reg_congr rfl rfl rfl), sameMemory_setReg rfl,
    (z_setReg_iff rfl).trans ((wrap16_eq_zero_iff ⟨by omega, by omega⟩).trans ?_)⟩
  omega

/-- Settles O58: the division has no result, so the first micro-word raises. -/
theorem divideByZeroTraps : Obligations.DivideByZeroTraps := by
  intro i op a b e h s hb
  obtain ⟨hexec, hop⟩ := exec_dividing h s
  rw [hexec, arithRegs, hb]
  exact arith_of_none (alu_of_zero_divisor hop rfl)

/-! ## CMP and the branches (R229, R230, R250 to R256) -/

/-- A comparison, field by field: its flag tells whether the operands are equal. -/
theorem compareFinish_completes (a b : Word) (s : State) :
    compareFinish a b s = .next { s with
      op1 := a, op2 := b, res := wrap16 (a.toInt - b.toInt), z := decide (a = b), ipSel := .inc, mpcSel := .null,
      pc := s.pcNext, mpc := 0, mw := cs 0, tick := s.tick + 1 } := by
  have hz : zeroFlag (wrap16 (a.toInt - b.toInt)) = decide (a = b) := by
    rw [zeroFlag_eq_decide]
    exact decide_eq_decide.2 (wrap16_sub_eq_zero_iff a b)
  rw [compareFinish_eq, hz]
  rfl

/-- Settles O50. -/
theorem compareResult : Obligations.CompareResult := by
  refine ⟨fun i a b e h s => ?_, fun n i a e h s => ?_⟩
  · rw [exec_cmpRegs h]
    exact completes_same (compareFinish_completes _ _ _) (reg_congr rfl rfl rfl) rfl
  · rw [exec_cmpImm h]
    exact completes_same (compareFinish_completes _ _ _) (reg_congr rfl rfl rfl) rfl

/-- Settles O51. -/
theorem branchResult : Obligations.BranchResult := by
  intro n s i taken h
  rw [exec_branch h]
  exact completes_same (by cases taken <;> rfl) (reg_congr rfl rfl rfl) rfl

/-- Settles O52: the branch tests the flag that the comparison has set. -/
theorem compareThenBranch : Obligations.CompareThenBranch := by
  intro i a b e h s item n
  obtain ⟨t, ht, heq, _, _⟩ := compareResult.1 i a b e h s
  obtain ⟨u, hu, hueq, _, _⟩ := branchResult n (t.fetched item) (.jz n) t.z (by simp)
  obtain ⟨v, hv, hveq, _, _⟩ := branchResult n (t.fetched item) (.jnz n) (!t.z) (by simp)
  have hz : t.z = decide (s.reg a = s.reg b) := by rw [heq]
  have hnext : (t.fetched item).pcNext = t.pcNext := rfl
  refine ⟨t, u, v, ht, hu, hv, ?_, ?_⟩
  · rw [hueq]
    simp only [hz, hnext, decide_eq_true_eq]
  · rw [hveq]
    by_cases hab : s.reg a = s.reg b <;> simp [hz, hnext, hab]

/-- Settles O55: the decode tick raises, and nothing but the status is changed by it. -/
theorem haltResult : Obligations.HaltResult :=
  ⟨fun _ => rfl, fun _ _ hs hb hi hd => Refinement.step_of_decode hs hb hi hd⟩

/-! ## Input and output (R262 to R266) -/

theorem toNat_of_nonneg {v : Word} (h : 0 ≤ v.toInt) : v.toInt.toNat = v.toNat := by
  have hcond := BitVec.toInt_eq_toNat_cond v
  split at hcond <;> omega

/-- Settles O53: the code of a register that is not negative is appended. -/
theorem outResult : Obligations.OutResult := by
  intro i d e h s hd
  rw [exec_outReg h, toNat_of_nonneg hd]
  have happend : outAppend s.out (s.reg d) = .ok (s.out ++ [(s.reg d).toNat]) := if_neg (Int.not_lt.2 hd)
  exact completes_same (outReg_of_ok happend) (reg_congr rfl rfl rfl) rfl

/-- Settles O54: the peek answers the head's code, which the register then holds. -/
theorem inResult : Obligations.InResult := by
  intro i d e h s c q hq hc
  rw [exec_inReg h]
  have hcode : wrap16 (c : Int) = BitVec.ofNat 16 c := BitVec.ofInt_natCast 16 c
  have hhead : inHead s.inQ = .ok (wrap16 c) := by
    rw [hq]
    exact inHead_inside (by omega)
  rw [← hcode]
  refine ⟨_, (inReg_of_ok hq hhead).trans (by cases d <;> rfl), rfl, regsSet_setReg_of_sameRegs (reg_congr rfl rfl rfl),
    ?_, sameMemory_setReg rfl⟩
  rw [reg_setReg, if_pos rfl, toInt_wrap16 ⟨by omega, by omega⟩]

/-- Settles O59: the peek raises for an empty queue and for a code above 127, the output for a negative value. -/
theorem inputAndOutputTraps : Obligations.InputAndOutputTraps := by
  refine ⟨fun i d e h s st hst => ?_, fun i d e h s hd => ?_⟩
  · rw [exec_inReg h]
    obtain ⟨hq, rfl⟩ | ⟨c, q, hq, hc, rfl⟩ := hst
    · exact inReg_of_error (by rw [hq]; rfl)
    · exact inReg_of_error (by rw [hq]; exact inHead_outside (by omega))
  · rw [exec_outReg h]
    exact outReg_of_error (if_pos hd)

end Sys2Proof.Results
end

section
/-! PROOF. Settles the statements on what an instruction leaves unchanged, O24 and O28. Every meaning either raises and keeps all that a
program sees, or completes and writes no more than its form may; one lemma says so for each meaning. -/

namespace Sys2Proof.Footprints

open Sys2Proof.Machine Sys2Proof.Meanings

/-! ## What a form may write -/

/-- What an instruction form may write: a register, the flag and the ALU's result, a word of memory, the output, the input queue. -/
structure Footprint where
  dest : Option Reg := none
  flag : Bool := false
  word : Option Word := none
  output : Bool := false
  input : Bool := false

/-- The footprint that an instruction's record gives it in a state. -/
def footprint (i : Instr) (s : State) : Footprint where
  dest := destination i
  flag := writesZ i.toRecord.opcode
  word := storeAddress i s
  output := decide (i.toRecord.opcode = .out)
  input := decide (i.toRecord.opcode = .inp)

/-- From `s` to `t` nothing outside the footprint has changed, the latches and the control unit aside. -/
structure Within (w : Footprint) (s t : State) : Prop where
  regs : ∀ r, w.dest ≠ some r → t.reg r = s.reg r
  flag : w.flag = false → t.z = s.z ∧ t.res = s.res
  words : ∀ a, (∀ e, w.word = some e → a ≠ e.toNat) → Memory.read t.mem a = Memory.read s.mem a
  output : w.output = false → t.out = s.out
  input : w.input = false → t.inQ = s.inQ
  program : t.imem = s.imem
  instr : t.ir = s.ir

/-- What a raising instruction keeps. -/
structure Kept (s t : State) : Prop where
  data : SameData s t
  res : t.res = s.res
  pc : t.pc = s.pc
  program : t.imem = s.imem
  instr : t.ir = s.ir

/-- The two ways an instruction ends: it completes inside its footprint with the status as it was, or it raises and keeps all that a
program sees. -/
def Effect (w : Footprint) (s t : State) : Prop := (t.status = s.status ∧ Within w s t) ∨ Kept s t

/-- The parts of a state that a raising instruction keeps. -/
def visible (s : State) := (s.r1, s.r2, s.r3, s.z, s.res, s.mem, s.inQ, s.out, s.pc, s.imem, s.ir)

theorem kept_of_visible {s t : State} (h : visible t = visible s) : Kept s t := by
  simp only [visible, Prod.mk.injEq] at h
  obtain ⟨h1, h2, h3, hz, hres, hmem, hin, hout, hpc, himem, hir⟩ := h
  exact ⟨⟨reg_congr h1 h2 h3, hz, fun a => by rw [hmem], hin, hout⟩, hres, hpc, himem, hir⟩

theorem Kept.within {s t : State} (h : Kept s t) (w : Footprint) : Within w s t :=
  ⟨fun r _ => h.data.regs r, fun _ => ⟨h.data.zero, h.res⟩, fun a _ => h.data.words a, fun _ => h.data.output, fun _ => h.data.input,
    h.program, h.instr⟩

theorem Effect.within {w : Footprint} {s t : State} (h : Effect w s t) : Within w s t := by
  obtain ⟨_, hwithin⟩ | hkept := h
  · exact hwithin
  · exact hkept.within w

theorem within_of_visible {w : Footprint} {s t : State} (h : visible t = visible s) : Within w s t := (kept_of_visible h).within w

/-- Steps that write latches alone may come before. -/
theorem Effect.after {w : Footprint} {s u t : State} (h : Effect w u t) (hs : u.status = s.status) (hu : Kept s u) :
    Effect w s t := by
  obtain ⟨⟨hregs, hz, hwords, hin, hout⟩, hres, hpc, himem, hir⟩ := hu
  obtain ⟨hstatus, hw⟩ | hk := h
  · exact .inl ⟨hstatus.trans hs, fun r hr => (hw.regs r hr).trans (hregs r),
      fun hf => ⟨(hw.flag hf).1.trans hz, (hw.flag hf).2.trans hres⟩, fun a ha => (hw.words a ha).trans (hwords a),
      fun ho => (hw.output ho).trans hout, fun hi => (hw.input hi).trans hin, hw.program.trans himem, hw.instr.trans hir⟩
  · exact .inr ⟨⟨fun r => (hk.data.regs r).trans (hregs r), hk.data.zero.trans hz, fun a => (hk.data.words a).trans (hwords a),
      hk.data.input.trans hin, hk.data.output.trans hout⟩, hk.res.trans hres, hk.pc.trans hpc, hk.program.trans himem,
      hk.instr.trans hir⟩

theorem effect_of_raise {w : Footprint} {s t : State} (h : visible t = visible s) : Effect w s t := .inr (kept_of_visible h)

/-- The end of an instruction writes `pc` and the control unit alone. -/
theorem effect_retire {w : Footprint} {s x : State} {p : IpSel} (hs : x.status = s.status) (h : Within w s x) :
    Effect w s (x.retire p) :=
  .inl ⟨hs, fun r hr => (reg_congr rfl rfl rfl r).trans (h.regs r hr), h.flag, h.words, h.output, h.input, h.program, h.instr⟩

/-- The register an instruction writes last joins its footprint. -/
theorem Within.setReg {w : Footprint} {s x : State} {d : Reg} {v : Word} (h : Within w s x) (hd : w.dest = none) :
    Within { w with dest := some d } s (x.setReg d v) where
  regs r hr := by
    rw [reg_setReg, if_neg fun hrd => hr (congrArg some hrd.symm)]
    exact h.regs r (by rw [hd]; exact nofun)
  flag := by simpa using h.flag
  words := by simpa using h.words
  output := by simpa using h.output
  input := by simpa using h.input
  program := by simpa using h.program
  instr := by simpa using h.instr

/-- An instruction that ends by writing one register. -/
theorem effect_setReg {w : Footprint} {s x : State} {d : Reg} {v : Word} {p : IpSel} (hs : x.status = s.status)
    (h : Within w s x) (hd : w.dest = none) : Effect { w with dest := some d } s ((x.setReg d v).retire p) :=
  effect_retire ((setReg_status ..).trans hs) (h.setReg hd)

/-! ## Each meaning -/

theorem setReg_withInQ (s : State) (d : Reg) (v : Word) (q : List Nat) :
    ({ s.setReg d v with inQ := q } : State) = ({ s with inQ := q } : State).setReg d v := by
  cases d <;> rfl

theorem effect_movImm {d : Reg} {e : MicroAddr} {n : Word} {s t : State} (h : movImm d e n s = .next t) :
    Effect { dest := some d } s t := by
  cases h
  exact effect_setReg (w := {}) rfl (within_of_visible rfl) rfl

theorem effect_movReg {d r : Reg} {e : MicroAddr} {s t : State} (h : movReg d r e s = .next t) :
    Effect { dest := some d } s t := by
  cases h
  exact effect_setReg (w := {}) rfl (within_of_visible rfl) rfl

theorem effect_loadFinish {d : Reg} {s t : State} (h : loadFinish d s = .next t) : Effect { dest := some d } s t := by
  cases hread : memRead s.mem s.ar with
  | none =>
    rw [loadFinish_of_none hread] at h
    cases h
    exact effect_of_raise rfl
  | some v =>
    rw [loadFinish_of_some hread] at h
    cases h
    exact effect_setReg (w := {}) rfl (within_of_visible rfl) rfl

theorem effect_storeFinish {r : Reg} {s t : State} (h : storeFinish r s = .next t) : Effect { word := some s.ar } s t := by
  cases hwrite : memWrite s.mem s.ar (s.reg r) with
  | none =>
    rw [storeFinish_of_none hwrite] at h
    cases h
    exact effect_of_raise rfl
  | some m =>
    rw [storeFinish_of_some hwrite] at h
    cases h
    obtain ⟨_, rfl⟩ := memWrite_eq_some.1 hwrite
    exact effect_retire rfl ⟨fun _ _ => reg_congr rfl rfl rfl _, fun _ => ⟨rfl, rfl⟩,
      fun a ha => Memory.read_write_ne (ha _ rfl), fun _ => rfl, fun _ => rfl, rfl, rfl⟩

theorem effect_arith {op : AluOp} {d : Reg} {e : MicroAddr} {a b : Word} {s t : State} (h : arith op d e a b s = .next t) :
    Effect { dest := some d, flag := true } s t := by
  cases halu : alu op a b with
  | none =>
    rw [arith_of_none halu] at h
    cases h
    exact effect_of_raise rfl
  | some v =>
    rw [arith_of_some halu] at h
    cases h
    exact effect_setReg (w := { flag := true }) rfl
      ⟨fun _ _ => reg_congr rfl rfl rfl _, nofun, fun _ _ => rfl, fun _ => rfl, fun _ => rfl, rfl, rfl⟩ rfl

theorem effect_addRegs {d a b : Reg} {e : MicroAddr} {s t : State} (h : addRegs d a b e s = .next t) :
    Effect { dest := some d, flag := true } s t :=
  effect_arith h

theorem effect_arithRegs {op : AluOp} {a b : Reg} {e : MicroAddr} {s t : State} (h : arithRegs op a b e s = .next t) :
    Effect { dest := some a, flag := true } s t :=
  effect_arith h

theorem effect_arithOne {op : AluOp} {d : Reg} {e : MicroAddr} {s t : State} (h : arithOne op d e s = .next t) :
    Effect { dest := some d, flag := true } s t :=
  effect_arith h

theorem effect_compareFinish {a b : Word} {s t : State} (h : compareFinish a b s = .next t) : Effect { flag := true } s t := by
  rw [compareFinish_eq] at h
  cases h
  exact effect_retire rfl
    ⟨fun _ _ => reg_congr rfl rfl rfl _, nofun, fun _ _ => rfl, fun _ => rfl, fun _ => rfl, rfl, rfl⟩

theorem effect_branch {taken : Bool} {n : Word} {s t : State} (h : branch taken n s = .next t) : Effect {} s t := by
  cases taken with
  | false | true =>
    cases h
    exact effect_retire rfl (within_of_visible rfl)

theorem effect_halt {s t : State} (h : execHalt s = .next t) : Effect {} s t := by
  cases h
  exact effect_of_raise rfl

theorem effect_outReg {d : Reg} {e : MicroAddr} {s t : State} (h : outReg d e s = .next t) : Effect { output := true } s t := by
  cases happend : outAppend s.out (s.reg d) with
  | error c =>
    rw [outReg_of_error happend] at h
    cases h
    exact effect_of_raise rfl
  | ok o =>
    rw [outReg_of_ok happend] at h
    cases h
    exact effect_retire rfl
      ⟨fun _ _ => reg_congr rfl rfl rfl _, fun _ => ⟨rfl, rfl⟩, fun _ _ => rfl, nofun, fun _ => rfl, rfl, rfl⟩

/-- A completed peek found a token, which the advance then takes. -/
theorem effect_inReg {d : Reg} {e : MicroAddr} {s t : State} (h : inReg d e s = .next t) :
    Effect { dest := some d, input := true } s t := by
  cases hq : s.inQ with
  | nil =>
    rw [inReg_of_error (c := .inputExhausted) (by rw [hq]; rfl)] at h
    cases h
    exact effect_of_raise rfl
  | cons c q =>
    cases hpeek : inHead s.inQ with
    | error c =>
      rw [inReg_of_error hpeek] at h
      cases h
      exact effect_of_raise rfl
    | ok v =>
      rw [inReg_of_ok hq hpeek, setReg_withInQ] at h
      cases h
      exact effect_setReg (w := { input := true }) rfl
        ⟨fun _ _ => reg_congr rfl rfl rfl _, fun _ => ⟨rfl, rfl⟩, fun _ _ => rfl, fun _ => rfl, nofun, rfl, rfl⟩ rfl

/-- Every instruction completes inside the footprint of its form or raises. -/
theorem exec_effect {i : Instr} {s t : State} (h : exec i s = .next t) : Effect (footprint i s) s t := by
  unfold exec at h
  cases i with
  | movR1 n | movR2 n | movR3 n => exact effect_movImm h
  | movR1R2 | movR2R1 | movR2R3 | movR3R2 | movR1R3 | movR3R1 => exact effect_movReg h
  | loadR1 n | loadR2 n | loadR3 n => exact (effect_loadFinish h).after rfl (kept_of_visible rfl)
  | loadR1AtR2 | loadR1AtR3 | loadR2AtR1 | loadR2AtR3 | loadR3AtR1 | loadR3AtR2 =>
    exact (effect_loadFinish h).after rfl (kept_of_visible rfl)
  | storeR1 n | storeR2 n | storeR3 n =>
    rw [← Decoding.wrap16_toInt n] at h
    exact (effect_storeFinish h).after rfl (kept_of_visible rfl)
  | storeR1AtR2 | storeR1AtR3 | storeR2AtR1 | storeR2AtR3 | storeR3AtR1 | storeR3AtR2 =>
    exact (effect_storeFinish h).after rfl (kept_of_visible rfl)
  | cmpR1 n | cmpR2 n | cmpR3 n => exact (effect_compareFinish h).after rfl (kept_of_visible rfl)
  | cmpR1R2 | cmpR2R3 | cmpR1R3 => exact (effect_compareFinish h).after rfl (kept_of_visible rfl)
  | jmp n | jz n | jnz n => exact effect_branch h
  | halt => exact effect_halt h
  | outR1 | outR2 | outR3 => exact effect_outReg h
  | inR1 | inR2 | inR3 => exact effect_inReg h
  | addR1 | addR2 | addR3 => exact effect_addRegs h
  | incR1 | incR2 | incR3 | decR1 | decR2 | decR3 => exact effect_arithOne h
  | subR1R2 | subR2R1 | subR3R1 | subR1R3 | subR2R3 | subR3R2 | mulR1R2 | mulR2R1 | mulR3R1 => exact effect_arithRegs h
  | divR1R2 | divR2R1 | divR3R1 | divR1R3 | divR2R3 | divR3R2 => exact effect_arithRegs h
  | idivR1R2 | idivR2R1 | idivR3R1 | idivR1R3 | idivR2R3 | idivR3R2 => exact effect_arithRegs h

/-- Settles O28. -/
theorem whatInstructionsMayChange : Obligations.WhatInstructionsMayChange := by
  intro i s t h
  obtain ⟨hregs, hflag, hwords, hout, hin, himem, hir⟩ := (exec_effect h).within
  exact ⟨hregs, hflag, hwords, fun hop => hout (decide_eq_false hop), fun hop => hin (decide_eq_false hop), himem, hir⟩

/-- Settles O24: the fetch or the decoder raises, or the instruction does. -/
theorem raisingInstructionIsPrecise : Obligations.RaisingInstructionIsPrecise := by
  intro s t hs hb hstep hraised
  cases hi : imemRead s.imem s.pc with
  | none =>
    rw [Refinement.step_of_outside hs hb hi] at hstep
    cases hstep
    exact ⟨⟨reg_congr rfl rfl rfl, rfl, fun _ => rfl, rfl, rfl⟩, rfl, rfl⟩
  | some item =>
    cases hd : decodeItem item with
    | error e =>
      rw [Encoding.step_of_miss hs hb hi hd] at hstep
      cases hstep
      exact ⟨⟨reg_congr rfl rfl rfl, rfl, fun _ => rfl, rfl, rfl⟩, rfl, rfl⟩
    | ok i =>
      rw [Refinement.step_of_decode hs hb hi hd] at hstep
      obtain ⟨hstatus, _⟩ | hkept := exec_effect hstep
      · exact absurd (hstatus.trans hs) hraised
      · obtain ⟨hregs, hzero, hwords, hin, hout⟩ := hkept.data
        exact ⟨⟨fun r => (hregs r).trans (reg_congr rfl rfl rfl r), hzero, hwords, hin, hout⟩, hkept.pc, hkept.program⟩

end Sys2Proof.Footprints
end
